-- ==== Sys2Proof/Word.lean ====
section
/-!
DEFINITION. The words of the manual: bytes, DAC codes, the indices of stations, notes, voices, slots, knobs and
switches, and the small fixed sets of names that operands and registers range over (00_scope.md, Conventions).
-/
namespace Sys2Proof

/-- A byte of a payload or of an EEPROM page. -/
abbrev Byte := BitVec 8
/-- A 16-bit DAC code, 0 to 65535 (00_scope.md, Units). -/
abbrev Code := BitVec 16
/-- A station ID, 0 to 7. -/
abbrev Station := Fin 8
/-- A note number, 0 to 127. -/
abbrev Note := Fin 128
/-- A velocity, 0 to 127; 0 stands for a Note-Off (R17). -/
abbrev Velocity := Fin 128
/-- A voice index, 0 to 5. -/
abbrev VoiceIdx := Fin 6
/-- A channel slot number 8u + c, 0 to 47 (R107). -/
abbrev SlotIdx := Fin 48
/-- A patch slot number, 0 to 63. -/
abbrev PatchSlot := Fin 64
/-- A calibration table: the codes C(0) to C(10) (R95). -/
abbrev CalTable := Vector Code 11

/-- The level of VL in one bit time (R1): dominant is low, recessive is high. -/
inductive Level where
  | dominant | recessive
  deriving DecidableEq, Repr

/-- Who sent a taken frame: this station itself (taken under R16), or another transmitter whose arbitration field
carries `sender`. -/
inductive Origin where
  | own
  | line (sender : Station)
  deriving DecidableEq, Repr

/-- The faults that end reception where they are found (R12), each with what R5 needs of it: the level of seven equal bits,
and for a length of 15 the recessive line bits, 1 to 6, that end with the last length bit. -/
inductive FramingFault where
  | sevenEqual (level : Level)
  | dominantEnd
  | lengthFifteen (run : Fin 7)
  deriving DecidableEq, Repr

/-- A tune's outcome, in the order of its codes 0 to 6 (R188). -/
inductive TuneOutcome where
  | ok | okDrift | noSignal | outOfRange | noConverge | nonMonotonic | aborted
  deriving DecidableEq, Repr

/-- The items of a Query, in the order of their codes 0 to 3 (R198). -/
inductive QueryItem where
  | identity | health | counters | calib
  deriving DecidableEq, Repr

/-- The types of a Report, in the order of their codes 0 to 6 (R196). -/
inductive ReportType where
  | identity | health | counters | calibA | calibB | fault | memory
  deriving DecidableEq, Repr

/-- A frame as its bits stand on the line without start, sync and end bits (R4). The length field is the number of
payload bytes. -/
structure RawFrame where
  cls : BitVec 3
  rank : BitVec 8
  sender : BitVec 3
  kind : BitVec 4
  payload : List Byte
  check : Byte
  deriving DecidableEq, Repr

/-- What a page read sees on MDI: the page the device holds, or the 64 bytes given (a device that is gone, still busy
with an older write, or at fault: R159, R163). -/
inductive MdiPage where
  | fromDevice
  | bytes (data : Vector Byte 64)
  deriving DecidableEq, Repr

/-- The request of another block that arrives at the very moment at which a memory operation ends and is handed over before the
request that waits for room (R162): none, or a Recall or a Store taken at that moment. -/
inductive Rival where
  | none
  | recall (sender : Station) (slot morph : Byte)
  | store (sender : Station) (slot : Byte)
  deriving DecidableEq, Repr

/-- What the end of a memory operation shows, and the rival of that moment (R162). -/
structure OperationEnd (α : Type) where
  seen : α
  rival : Rival
  deriving DecidableEq, Repr

/-- The content of a frame, by kind (the table Classes and kinds, and 12, Payloads). Every value of this type is in
form under R13, but for a Report's data length. -/
inductive Frame where
  | noteOn (note : Note) (velocity : Velocity)
  | noteOff (note : Note)
  | sustain (on : Bool)
  | allNotesOff
  | claim (source : Station) (note : Note) (voice : VoiceIdx)
  | tuneBegin (voice : VoiceIdx) (refresh : Bool)
  | tuneEnd (voice : VoiceIdx) (outcome : TuneOutcome) (detail : Byte)
  | tuneRequest (stations voices : Byte)
  | tuneStop
  | bend (value : BitVec 16)
  | param (index : Byte) (value : BitVec 16)
  | knob (number : Byte) (value : BitVec 16)
  | recall (slot morph : Byte)
  | store (slot : Byte)
  | switch (number : BitVec 6) (closed : Bool)
  | hello (part revision voices flags : Byte)
  | setup (pickup limit steal patch : Byte)
  | query (target : Station) (item : QueryItem) (subject : Byte)
  | report (type : ReportType) (subject : Byte) (data : List Byte)
  | restart (target : Station)
  deriving DecidableEq, Repr

end Sys2Proof
end

