-- ==== Sys2Proof/Syntax.lean ====
section
/-!
DEFINITION. The commands of the station: one constructor per row of spec/opcode_table.json, with the operands its rules
read. A taken frame's command names the sender and the payload fields; the frame kinds the MV6 itself sends take an
`Origin`, `own` for the station's own frame taken under R16.
-/
namespace Sys2Proof

/-- The commands (spec/opcode_table.json, row by row). -/
inductive Instr where
  /-- POWER_ON_RESET (R42). -/
  | powerOnReset
  /-- RESET_END (R27). -/
  | resetEnd
  /-- STRAP_SLOT_END (R27, R28): the level of the ID pin at the end of the slot, and VCNT and SCAN, which are read at
  the end of the eighth slot. -/
  | strapSlotEnd (idLow : Bool) (vcnt : BitVec 3) (scanHigh : Bool)
  /-- LISTEN_TIMER_EXPIRY (R31). -/
  | listenTimerExpiry
  /-- SETUP_TIMER_EXPIRY (R36). -/
  | setupTimerExpiry
  /-- TRANSMIT_START (R6). -/
  | transmitStart
  /-- LOST_ARBITRATION (R8). -/
  | lostArbitration
  /-- COLLISION (R10); which bit differed is a free value (log 36). -/
  | collision
  /-- FRAMING_ERROR (R12). -/
  | framingError (found : FramingFault)
  /-- FRAME_DISCARDED (R13): the frame as it stood on the line. -/
  | frameDiscarded (frame : RawFrame)
  /-- OWN_FRAME_TAKEN (R16): the station's frame on the line is taken. -/
  | ownFrameTaken
  /-- NOTE_ON (R64). -/
  | noteOn (sender : Station) (note : Note) (velocity : Velocity)
  /-- NOTE_OFF (R50). -/
  | noteOff (sender : Station) (note : Note)
  /-- SUSTAIN (R52). -/
  | sustain (sender : Station) (on : Bool)
  /-- ALL_NOTES_OFF (R53). -/
  | allNotesOff (sender : Station)
  /-- OWN_CLAIM_TAKEN (R69). -/
  | ownClaimTaken (source : Station) (note : Note) (voice : VoiceIdx)
  /-- OTHER_CLAIM_TAKEN (R70). -/
  | otherClaimTaken (sender source : Station) (note : Note) (voice : VoiceIdx)
  /-- BEND (R46): the 16-bit two's complement value. -/
  | bend (sender : Station) (value : BitVec 16)
  /-- PARAM (R145). -/
  | param (sender : Station) (index : Byte) (value : BitVec 16)
  /-- KNOB (R146). -/
  | knob (origin : Origin) (number : Byte) (value : BitVec 16)
  /-- RECALL (R147). -/
  | recall (sender : Station) (slot morph : Byte)
  /-- STORE (R152). -/
  | store (sender : Station) (slot : Byte)
  /-- SWITCH_TAKEN (R17). -/
  | switchTaken (origin : Origin) (number : BitVec 6) (closed : Bool)
  /-- REPORT_TAKEN (R17). -/
  | reportTaken (origin : Origin) (type : ReportType) (subject : Byte) (data : List Byte)
  /-- HELLO (R33): the four payload bytes. -/
  | hello (origin : Origin) (part revision voices flags : Byte)
  /-- SETUP (R35): the four payload bytes. -/
  | setup (sender : Station) (pickup limit steal patch : Byte)
  /-- QUERY (R198). -/
  | query (sender target : Station) (item : QueryItem) (subject : Byte)
  /-- RESTART (R40). -/
  | restart (sender target : Station)
  /-- TUNE_REQUEST (R172). -/
  | tuneRequest (sender : Station) (stations voices : Byte)
  /-- TUNE_BEGIN (R175). -/
  | tuneBegin (origin : Origin) (voice : VoiceIdx) (refresh : Bool)
  /-- TUNE_END (R177). -/
  | tuneEnd (origin : Origin) (voice : VoiceIdx) (outcome : TuneOutcome) (detail : Byte)
  /-- TUNE_STOP (R189). -/
  | tuneStop (sender : Station)
  /-- GAP_TIMER_EXPIRY (R49). -/
  | gapTimerExpiry (voice : VoiceIdx)
  /-- MINIMUM_GATE_EXPIRY (R51). -/
  | minimumGateExpiry (voice : VoiceIdx)
  /-- RELEASE_TIMER_EXPIRY (R55). -/
  | releaseTimerExpiry (voice : VoiceIdx)
  /-- CLAIM_TIMEOUT (R72): of the pending entry for this note identity. -/
  | claimTimeout (source : Station) (note : Note)
  /-- GLIDE_STEP (R93). -/
  | glideStep (voice : VoiceIdx)
  /-- SLOT_AGE_THRESHOLD (R112): the slot, and whether its age reaches 3.5 ms (`forced`) or 2 ms. -/
  | slotAgeThreshold (slot : SlotIdx) (forced : Bool)
  /-- DRDY_READY (R114). -/
  | drdyReady
  /-- WRITE_COMPLETE (R115). -/
  | writeComplete
  /-- HOLD_END (R115). -/
  | holdEnd
  /-- DRDY_TIMEOUT (R116). -/
  | drdyTimeout
  /-- PROBE_COMPLETE (R159): the status byte. -/
  | probeComplete (status : Byte)
  /-- PAGE_READ_COMPLETE (R163): what MDI showed, and a request that reaches the Memory Controller at this moment before one that
  waits for room (R162). -/
  | pageReadComplete (mdi : OperationEnd MdiPage)
  /-- WRITE_POLL (R166): the status byte, and a request that reaches the Memory Controller at this moment before one that waits for
  room (R162). -/
  | writePoll (status : OperationEnd Byte)
  /-- MORPH_STEP (R151). -/
  | morphStep
  /-- KNOB_ROUND_START (R125). -/
  | knobRoundStart
  /-- KNOB_SAMPLE_END (R128): the 12-bit result. -/
  | knobSampleEnd (reading : BitVec 12)
  /-- MATRIX_ROW_END (R137): the levels of SS0 to SS7; bit c is SSc, 1 high. -/
  | matrixRowEnd (ss : BitVec 8)
  /-- SETTLE_TIMER_EXPIRY (R181). -/
  | settleTimerExpiry
  /-- TIN_FIRST_EDGE (R171). -/
  | tinFirstEdge
  /-- COUNT_END (R182): the count T. -/
  | countEnd (count : BitVec 20)
  /-- START_LIMIT_EXPIRY (R171). -/
  | startLimitExpiry
  /-- COUNT_OVERFLOW (R171). -/
  | countOverflow
  /-- REFRESH_TIMER_EXPIRY (R178). -/
  | refreshTimerExpiry
  /-- START_BIT_RECEIVED (R5): the level the bit that the edge begins samples. A station that has lost its place is told of each dominant
  bit by it, also of one that comes too early to be a start bit (log 38). -/
  | startBitReceived (sampled : Level)
  /-- BANK_CHANGE_GAP_END (R114). -/
  | bankChangeGapEnd
  /-- DLD_PULSE_END (R114): whether DRDY already reads high. -/
  | dldPulseEnd (drdyHigh : Bool)
  /-- PAGE_WRITE_COMMAND_END (R166). -/
  | pageWriteCommandEnd
  deriving DecidableEq, Repr

end Sys2Proof
end

