-- ==== Sys2Proof/Decode.lean ====
section
/-!
DEFINITION. The link frame (01, 12): class, kind, payload and check of every frame kind, the line bits with their sync
bits, and how a receiver judges what it read (R12, R13, R200). spec/opcode_table.json gives no row any bits, so
`decodeTableWord` spells no command.
-/
namespace Sys2Proof

/-- No row of spec/opcode_table.json gives bits: no word spells a command. -/
def decodeTableWord (_nbits _w : Nat) : Option Instr := none

/-! ### Numbers of the frame table -/

/-- The frame's class (Classes and kinds). -/
def Frame.cls : Frame → Nat
  | .noteOn _ _ | .noteOff _ | .sustain _ | .allNotesOff => 0
  | .claim _ _ _ => 1
  | .tuneBegin _ _ | .tuneEnd _ _ _ | .tuneRequest _ _ | .tuneStop => 2
  | .bend _ => 3
  | .param _ _ | .knob _ _ => 4
  | .recall _ _ | .store _ => 5
  | .switch _ _ => 6
  | .hello _ _ _ _ | .setup _ _ _ _ | .query _ _ _ | .report _ _ _ | .restart _ => 7

/-- The frame's kind within its class (Classes and kinds). -/
def Frame.kind : Frame → Nat
  | .noteOn _ _ => 0 | .noteOff _ => 1 | .sustain _ => 2 | .allNotesOff => 3
  | .claim _ _ _ => 0
  | .tuneBegin _ _ => 0 | .tuneEnd _ _ _ => 1 | .tuneRequest _ _ => 2 | .tuneStop => 3
  | .bend _ => 0
  | .param _ _ => 0 | .knob _ _ => 1
  | .recall _ _ => 0 | .store _ => 1
  | .switch _ _ => 0
  | .hello _ _ _ _ => 0 | .setup _ _ _ _ => 1 | .query _ _ _ => 2 | .report _ _ _ => 3 | .restart _ => 4

/-- The code of a tune outcome (R188). -/
def TuneOutcome.code : TuneOutcome → Byte
  | .ok => 0 | .okDrift => 1 | .noSignal => 2 | .outOfRange => 3 | .noConverge => 4 | .nonMonotonic => 5 | .aborted => 6

/-- The tune outcome of a code 0 to 6 (R13: outcome in form 0–6). -/
def TuneOutcome.ofCode (b : Byte) : Option TuneOutcome :=
  match b.toNat with
  | 0 => some .ok | 1 => some .okDrift | 2 => some .noSignal | 3 => some .outOfRange
  | 4 => some .noConverge | 5 => some .nonMonotonic | 6 => some .aborted
  | _ => none

/-- The code of a Query item (R198). -/
def QueryItem.code : QueryItem → Byte
  | .identity => 0 | .health => 1 | .counters => 2 | .calib => 3

/-- The Query item of a code 0 to 3 (R13). -/
def QueryItem.ofCode (b : Byte) : Option QueryItem :=
  match b.toNat with
  | 0 => some .identity | 1 => some .health | 2 => some .counters | 3 => some .calib
  | _ => none

/-- The code of a Report type (R196). -/
def ReportType.code : ReportType → Byte
  | .identity => 0 | .health => 1 | .counters => 2 | .calibA => 3 | .calibB => 4 | .fault => 5 | .memory => 6

/-- The Report type of a code 0 to 6 (R13). -/
def ReportType.ofCode (b : Byte) : Option ReportType :=
  match b.toNat with
  | 0 => some .identity | 1 => some .health | 2 => some .counters | 3 => some .calibA
  | 4 => some .calibB | 5 => some .fault | 6 => some .memory
  | _ => none

/-- The data length of a Report type: the payload length of 12, Report payloads, less 2. -/
def ReportType.dataLength : ReportType → Nat
  | .identity => 7 | .health => 7 | .counters => 12 | .calibA => 12 | .calibB => 10 | .fault => 1 | .memory => 1

/-! ### Payloads (12, Payloads) -/

/-- The high and the low byte of a two-byte number (12: high byte first). -/
def hiByte (v : BitVec 16) : Byte := v.extractLsb' 8 8
def loByte (v : BitVec 16) : Byte := v.extractLsb' 0 8
/-- The two bytes of a number, high byte first. -/
def twoBytes (v : BitVec 16) : List Byte := [hiByte v, loByte v]
/-- The number two bytes make, high byte first. -/
def ofTwoBytes (hi lo : Byte) : BitVec 16 := hi ++ lo

/-- A flag as a byte. -/
def flagByte (b : Bool) : Byte := if b then 1 else 0
/-- A flag field of one byte, in form only at 0 or 1 (R200). -/
def flagOf (b : Byte) : Option Bool := if b = 0 then some false else if b = 1 then some true else none
/-- A byte as a number below `n`, when it is one (R13). -/
def below (n : Nat) (b : Byte) : Option (Fin n) := if h : b.toNat < n then some ⟨b.toNat, h⟩ else none
/-- A small number as a byte. -/
def byteOf (n : Nat) : Byte := BitVec.ofNat 8 n

/-- The payload bytes of a frame (12, Payloads and Report payloads). -/
def Frame.payload : Frame → List Byte
  | .noteOn n v => [byteOf n.val, byteOf v.val]
  | .noteOff n => [byteOf n.val]
  | .sustain on => [flagByte on]
  | .allNotesOff => []
  | .claim s n u => [byteOf s.val, byteOf n.val, byteOf u.val]
  | .tuneBegin u r => [byteOf u.val, flagByte r]
  | .tuneEnd u o d => [byteOf u.val, o.code, d]
  | .tuneRequest s v => [s, v]
  | .tuneStop => []
  | .bend v => twoBytes v
  | .param p v => p :: twoBytes v
  | .knob k v => k :: twoBytes v
  | .recall s m => [s, m]
  | .store s => [s]
  | .switch n c => [n.setWidth 8, flagByte c]
  | .hello p r v f => [p, r, v, f]
  | .setup p l s i => [p, l, s, i]
  | .query t i s => [byteOf t.val, i.code, s]
  | .report t s d => t.code :: s :: d
  | .restart t => [byteOf t.val]

/-- The frame that a class, a kind and a payload spell, if all are in form (R13, second list and table). -/
def Frame.ofContent (cls kind : Nat) (payload : List Byte) : Option Frame :=
  match cls, kind, payload with
  | 0, 0, [n, v] => do return .noteOn (← below 128 n) (← below 128 v)
  | 0, 1, [n] => do return .noteOff (← below 128 n)
  | 0, 2, [s] => do return .sustain (← flagOf s)
  | 0, 3, [] => some .allNotesOff
  | 1, 0, [s, n, u] => do return .claim (← below 8 s) (← below 128 n) (← below 6 u)
  | 2, 0, [u, r] => do return .tuneBegin (← below 6 u) (← flagOf r)
  | 2, 1, [u, o, d] => do return .tuneEnd (← below 6 u) (← TuneOutcome.ofCode o) d
  | 2, 2, [s, v] => some (.tuneRequest s v)
  | 2, 3, [] => some .tuneStop
  | 3, 0, [h, l] => some (.bend (ofTwoBytes h l))
  | 4, 0, [p, h, l] => some (.param p (ofTwoBytes h l))
  | 4, 1, [k, h, l] => some (.knob k (ofTwoBytes h l))
  | 5, 0, [s, m] => some (.recall s m)
  | 5, 1, [s] => some (.store s)
  | 6, 0, [n, c] => do
      let k ← below 64 n
      return .switch (BitVec.ofNat 6 k.val) (← flagOf c)
  | 7, 0, [p, r, v, f] => some (.hello p r v f)
  | 7, 1, [p, l, s, i] => some (.setup p l s i)
  | 7, 2, [t, i, s] => do return .query (← below 8 t) (← QueryItem.ofCode i) s
  | 7, 3, t :: s :: d => do
      let ty ← ReportType.ofCode t
      if d.length = ty.dataLength then return .report ty s d else none
  | 7, 4, [t] => do return .restart (← below 8 t)
  | _, _, _ => none

/-! ### Bits, check and arbitration field -/

/-- The bits of a word, most significant first (R4). -/
def bitsMsb {n : Nat} (v : BitVec n) : List Bool := (List.range n).map fun i => v.getMsbD i

/-- One step of the CRC-8 register of R13. -/
def crcStep (r : Byte) (b : Bool) : Byte := if r.msb = b then r <<< 1 else (r <<< 1) ^^^ 0x07

/-- The CRC-8 of R13 over bits in line order, from 0xFF. -/
def crc8 (bits : List Bool) : Byte := bits.foldl crcStep 0xFF

/-- The bits under the check: class, rank, station ID, kind, length and payload (R13). -/
def RawFrame.checkedBits (f : RawFrame) : List Bool :=
  bitsMsb f.cls ++ bitsMsb f.rank ++ bitsMsb f.sender ++ bitsMsb f.kind
    ++ bitsMsb (BitVec.ofNat 4 f.payload.length) ++ f.payload.flatMap bitsMsb

/-- The arbitration field read as a number: class × 2048 + rank × 8 + station ID (R9). -/
def arbField (cls rank sender : Nat) : Nat := cls * 2048 + rank * 8 + sender

/-- A frame as it goes on the line with a given rank and sender: its bits and its check (R4, R13, R15). -/
def Frame.raw (f : Frame) (rank : Nat) (sender : Station) : RawFrame :=
  let r : RawFrame := { cls := BitVec.ofNat 3 f.cls, rank := BitVec.ofNat 8 rank, sender := BitVec.ofNat 3 sender.val,
                        kind := BitVec.ofNat 4 f.kind, payload := f.payload, check := 0 }
  { r with check := crc8 r.checkedBits }

/-! ### Judging a received frame (R12, R13) -/

/-- What a receiver makes of a frame it has read to its end. -/
inductive Received where
  | checkError
  | malformed
  | taken (sender : Station) (frame : Frame)
  deriving DecidableEq, Repr

/-- The station ID of a raw frame's arbitration field (R15). -/
def RawFrame.station (f : RawFrame) : Station := Fin.ofNat 8 f.sender.toNat

/-- R12, R13: a length of 15 is malformed; then the check decides, whatever the content; then the content. -/
def RawFrame.judge (f : RawFrame) : Received :=
  if 15 ≤ f.payload.length then .malformed
  else if crc8 f.checkedBits ≠ f.check then .checkError
  else match Frame.ofContent f.cls.toNat f.kind.toNat f.payload with
    | some c => .taken f.station c
    | none => .malformed

/-- The command that the taking of a frame of another transmitter is (the rows of spec/opcode_table.json); a Note-On
with velocity 0 is a Note-Off (R17). -/
def Frame.command (s : Station) : Frame → Instr
  | .noteOn n v => if v = 0 then .noteOff s n else .noteOn s n v
  | .noteOff n => .noteOff s n
  | .sustain on => .sustain s on
  | .allNotesOff => .allNotesOff s
  | .claim src n u => .otherClaimTaken s src n u
  | .tuneBegin u r => .tuneBegin (.line s) u r
  | .tuneEnd u o d => .tuneEnd (.line s) u o d
  | .tuneRequest st v => .tuneRequest s st v
  | .tuneStop => .tuneStop s
  | .bend v => .bend s v
  | .param p v => .param s p v
  | .knob k v => .knob (.line s) k v
  | .recall sl m => .recall s sl m
  | .store sl => .store s sl
  | .switch n c => .switchTaken (.line s) n c
  | .hello p r v f => .hello (.line s) p r v f
  | .setup p l st i => .setup s p l st i
  | .query t i sub => .query s t i sub
  | .report t sub d => .reportTaken (.line s) t sub d
  | .restart t => .restart s t

/-! ### Line bits and sync bits (R3); `true` is recessive -/

/-- The bits of the span that takes sync bits: the start bit through the last check bit (R3, R4). -/
def RawFrame.span (f : RawFrame) : List Bool := false :: f.checkedBits ++ bitsMsb f.check

/-- The transmitter's insertion of sync bits: `run` bits of level `lvl` have been sent (R3). After six equal bits a bit
of the opposite level follows and the count starts again at 1. -/
def insertSync (lvl : Bool) (run : Nat) : List Bool → List Bool
  | [] => []
  | b :: rest =>
    let n := if b = lvl then run + 1 else 1
    if n = 6 then b :: (!b) :: insertSync (!b) 1 rest else b :: insertSync b n rest

/-- The bits a frame shows on the line, the three recessive end bits included (R3, R4). -/
def RawFrame.lineBits (f : RawFrame) : List Bool := insertSync true 0 f.span ++ [true, true, true]

/-- The line bits from the start bit through bit number n of the span (from 1), the sync bits among them included (R3, R8). -/
def RawFrame.lineThrough (f : RawFrame) (n : Nat) : List Bool :=
  insertSync true 0 (f.span.take (n - 1)) ++ (f.span.drop (n - 1)).take 1

/-- The line bits of the start bit and the arbitration field, with the sync bits that fall among them (R4, R8). -/
def RawFrame.arbitrationBits (f : RawFrame) : Nat := (f.lineThrough 15).length

/-- The recessive bits after the last dominant one of some bits read, in line order (R5). -/
def recessiveTail (read : List Bool) : Nat := (read.reverse.takeWhile id).length

/-- The recessive bits that close a frame (R5). -/
def RawFrame.closingRun (f : RawFrame) : Nat := recessiveTail f.lineBits

/-- The recessive line bits that end with the last length bit (R4, R5). -/
def RawFrame.lengthRun (f : RawFrame) : Nat := recessiveTail (f.lineThrough 23)

/-- The line bits in which a difference is a collision of the frame's sender, counted from 0: every bit but the recessive ones of the
arbitration field, where it is a lost arbitration (R8, R10). -/
def RawFrame.collisionBits (f : RawFrame) : List Nat :=
  (List.range f.lineBits.length).filter fun k => !f.lineBits.getD k true || f.arbitrationBits ≤ k

/-- The bits that the sender has read when its frame meets a collision in line bit k: the bits before as it sent them, and bit k at
the other level (R5, R10). -/
def RawFrame.readAtCollision (f : RawFrame) (k : Nat) : List Bool := f.lineBits.take k ++ [!f.lineBits.getD k true]

/-- The recessive bits read since the last dominant one when the fault is found (R5, R12). -/
def FramingFault.run : FramingFault → Nat
  | .sevenEqual .recessive => 7
  | .sevenEqual .dominant | .dominantEnd => 0
  | .lengthFifteen run => run.val

/-- The fault of a frame with a length of 15 (R12). -/
def RawFrame.lengthFault (f : RawFrame) : FramingFault := .lengthFifteen (Fin.ofNat 7 f.lengthRun)

/-- The command that a frame read from the line is: FRAMING_ERROR for a length of 15, else taken, or FRAME_DISCARDED (R12, R13). -/
def RawFrame.command (f : RawFrame) : Instr :=
  if 15 ≤ f.payload.length then .framingError f.lengthFault
  else match f.judge with
    | .taken s c => c.command s
    | _ => .frameDiscarded f

/-- The receiver's removal of sync bits, for the next `need` bits of content: the content, the run after it and the bits
that follow; `none` when a bit due as a sync bit has the level of the six before it (R3, R12) or the bits run out. -/
def removeSync (need : Nat) (lvl : Bool) (run : Nat) : List Bool → Option (List Bool × Bool × Nat × List Bool)
  | [] => if need = 0 ∧ run ≠ 6 then some ([], lvl, run, []) else none
  | b :: rest =>
    if run = 6 then (if b = lvl then none else removeSync need b 1 rest)
    else match need with
      | 0 => some ([], lvl, run, b :: rest)
      | need' + 1 =>
        match removeSync need' b (if b = lvl then run + 1 else 1) rest with
        | some (bits, st) => some (b :: bits, st)
        | none => none

/-- The number that bits make, most significant first. -/
def natOfBits (bits : List Bool) : Nat := bits.foldl (fun n b => 2 * n + (if b then 1 else 0)) 0

/-- Bits cut into `n` bytes. -/
def bytesOfBits : Nat → List Bool → List Byte
  | 0, _ => []
  | n + 1, bits => byteOf (natOfBits (bits.take 8)) :: bytesOfBits n (bits.drop 8)

/-- What a receiver assembles from the line bits of one frame, from its start bit on (R4, R12): `none` is a framing
error or a length of 15. -/
def receiveLine (line : List Bool) : Option RawFrame :=
  match removeSync 23 true 0 line with
  | none => none
  | some (head, lvl, run, rest) =>
    let n := natOfBits ((head.drop 19).take 4)
    if n = 15 then none else
    match removeSync (8 * n + 8) lvl run rest with
    | some (body, _, _, true :: true :: true :: _) =>
      some { cls := BitVec.ofNat 3 (natOfBits ((head.drop 1).take 3)), rank := BitVec.ofNat 8 (natOfBits ((head.drop 4).take 8)),
             sender := BitVec.ofNat 3 (natOfBits ((head.drop 12).take 3)), kind := BitVec.ofNat 4 (natOfBits ((head.drop 15).take 4)),
             payload := bytesOfBits n body, check := byteOf (natOfBits (body.drop (8 * n))) }
    | _ => none

end Sys2Proof
end

