-- ==== Sys2Proof/Config.lean ====
section
/-!
DEFINITION. What the manual fixes for every MV6 (durations in microseconds, counts, codes) and three free values
that it leaves open: the bytes of an EEPROM page whose write failed or was cut off (R167, R168), the bit of a frame in which it
meets a collision or breaks off (R7, R10), and the recessive bits that closed a frame of another station (R5).
-/
namespace Sys2Proof.Config
open Sys2Proof

/-- FREE VALUE (log 10): the n-th byte found in EEPROM pages whose write did not finish. R167: "The page of the failed
write is in an unknown state"; R168: "The page is left as the EEPROM leaves it." -/
opaque freePageByte : Nat → Byte

/-- FREE VALUE (log 36): which of the bits in which it could, the station's own frame meets its collision or breaks off in, at the
station's n-th free value. R10 puts a collision in any of them and R7 a break in any, and the commands do not say which. -/
opaque freeBit : Nat → Nat

/-- FREE VALUE (log 36): how many recessive bits closed a taken frame of another station, 3 to 8 of them by R5, at the station's n-th free
value. The command of a taken frame gives no rank, so its check bits do not follow from it. -/
opaque freeClosing : Nat → Nat

/-- One strap-sensing slot, 50 µs (R27). -/
def strapSlotUs : Nat := 50
/-- The listen timer, 30 ms (R31). -/
def listenUs : Nat := 30000
/-- The setup timer, 300 ms (R31). -/
def setupUs : Nat := 300000
/-- One bit time of VL, 2 µs (R2). -/
def bitUs : Nat := 2
/-- The recessive bit times before a start bit: 10 bit times (R5). -/
def startRunUs : Nat := 20
/-- The gap of a station in its place: 10 bit times of 2 µs (R5). -/
def gapInPlaceUs : Nat := 20
/-- The gap of a station that has lost its place: 18 bit times (R5). -/
def gapLostUs : Nat := 36
/-- The retrigger gap, 2 ms (R47). -/
def gapTimerUs : Nat := 2000
/-- The minimum gate, 2 ms (R49). -/
def minGateUs : Nat := 2000
/-- The claim timeout, 5 ms (R72). -/
def claimTimeoutUs : Nat := 5000
/-- The period of the glide timer, 1 ms (R86). -/
def glideUs : Nat := 1000
/-- The age at which a slot becomes due for routine refresh, 2 ms (R112). -/
def routineAgeUs : Nat := 2000
/-- The age at which a slot's refresh is forced, 3.5 ms (R112). -/
def forcedAgeUs : Nat := 3500
/-- The bank-change gap, the shift, the ready wait's limit and the hold of a write (R114). -/
def bankGapUs : Nat := 2
def shiftUs : Nat := 3
def readyLimitUs : Nat := 20
def holdUs : Nat := 1
/-- A page read, 134 µs (R163). -/
def pageReadUs : Nat := 134
/-- A status read of the probe, 4 µs (R158). -/
def probeUs : Nat := 4
/-- Write enable, MCS high and the page write command, 137 µs (R166). -/
def pageWriteUs : Nat := 137
/-- The interval of the status polls, 100 µs (R166). -/
def pollUs : Nat := 100
/-- The number of polls up to the one at 12.0 ms (R166, R167). -/
def pollLimit : Nat := 120
/-- The interval of morph steps in milliseconds (R151). -/
def morphStepMs : Nat := 8
/-- The interval of knob rounds and of matrix passes, 2 ms, one knob sample 30 µs, one matrix row 250 µs (R125, R137). -/
def roundUs : Nat := 2000
def sampleUs : Nat := 30
/-- The conversion that ends a knob sample, 10 µs (R125). -/
def convertUs : Nat := 10
def rowUs : Nat := 250
/-- The settle timer, 5 ms (R181). -/
def settleUs : Nat := 5000
/-- The frequency counter's start limit, 100 ms (R171). -/
def startLimitUs : Nat := 100000
/-- The refresh timer, 320 ms (R178). -/
def refreshUs : Nat := 320000
/-- The target count T* (R182). -/
def targetCount : Nat := 489249
/-- The least and the greatest count of a measurement in range (R171, R182). -/
def countMin : Nat := 244624
def countMax : Nat := 978498
/-- The drift above which a success is OK-DRIFT (R185). -/
def driftLimit : Nat := 1440
/-- Entries of the transmit queue, the pending claim list and the memory request queue (R18, R63, R160). -/
def txCapacity : Nat := 16
def claimCapacity : Nat := 4
def memCapacity : Nat := 4
/-- The part code and revision of the Hello (R31). -/
def partCode : Byte := 0x6D
def revision : Byte := 1

end Sys2Proof.Config
end

