-- ==== Sys2Proof/Machine/State.lean ====
section
/-!
DEFINITION. The state of one MV6 station as plain data: every register, table, queue, timer and pin the spec gives it
(INVENTORY.md, State), the reasons a step can stop, and the state right after reset (R42). A timer is the time in
microseconds at which it ends, `none` while it is stopped.
-/
namespace Sys2Proof.Machine
open Sys2Proof

/-- No rule of the spec stops the machine: its own two faults move the fault state (R192) and its memory events are
Reports (R197). So no meaning ends in a fault, and there is none to name. -/
inductive Fault where
  deriving DecidableEq, Repr

/-- Why a step can be refused. -/
inductive Refusal where
  /-- Raised by an arm of `exec` whose command has no meaning yet; safe. No arm of this model raises it. -/
  | notModelled (mnemonic : String)
  deriving DecidableEq, Repr

/-! ### Start-up Controller (02, 11) -/

/-- The station's phase (02, head table). -/
inductive Phase where
  | strap | listen | announce | awaitSetup | loading | running | strapFault
  deriving DecidableEq, Repr

/-- The fault state (R192). -/
inductive FaultState where
  | normal | muted | silent
  deriving DecidableEq, Repr

/-- The station's own faults (R192). -/
inductive FaultCode where
  | dacStall | dupId
  deriving DecidableEq, Repr

/-- The pickup mode of Setup (R35). -/
inductive PickupMode where
  | jump | catch | relative
  deriving DecidableEq, Repr

/-- The steal mode of Setup (R35). -/
inductive StealMode where
  | oldest | none
  deriving DecidableEq, Repr

/-- A memory request (R160). -/
inductive MemReq where
  | recallRead (slot : PatchSlot) (morph : Byte)
  | storeWrite (slot : PatchSlot) (values : Vector Nat 16)
  | calWrite (voice : VoiceIdx) (osc1 osc2 : CalTable) (failures : Fin 3) (drift : BitVec 16) (outcome : TuneOutcome)
  | calRead (voice : VoiceIdx)
  deriving DecidableEq, Repr

/-- Where the Start-up Controller stands in the loads of R37. -/
inductive LoadStep where
  /-- no loads are being made -/
  | none
  /-- the probe waits for the memory port to fall idle -/
  | probeWaiting
  /-- the probe is on the port -/
  | probing
  /-- the probe found a device; `rest` are the reads not yet handed over -/
  | reads (rest : List MemReq)
  deriving DecidableEq, Repr

/-- The Start-up Controller's items (R27 to R42, R192, R195). -/
structure StartUp where
  resetHeld : Bool
  phase : Phase
  stationId : Option Station
  voiceCount : Fin 7
  scan : Bool
  strapClamp : Bool
  strapSlot : Option (Fin 8)
  sensedLow : BitVec 8
  slotTimer : Option Nat
  pickup : PickupMode
  limit : Nat
  steal : StealMode
  initialPatch : PatchSlot
  frozen : Bool
  loadsDone : Bool
  load : LoadStep
  listenTimer : Option Nat
  setupTimer : Option Nat
  fault : FaultState
  silencing : Option (FaultCode × Byte)
  deriving DecidableEq, Repr

/-! ### Link Controller (01) -/

/-- The receive decoder's place in the line (R5, R6, R26). -/
inductive Place where
  /-- the line is not read: reset and phase STRAP -/
  | notReading
  /-- a frame of another station was taken, and its end field ended at `since`: the gap is 10 bit times -/
  | inPlace (since : Nat)
  /-- in its place, with the gap of 10 bit times counted from `since`, before which it read `closing` recessive bits: those that closed a
  frame whose bits it knows, or none where it counts its run again from a bit -/
  | closed (since closing : Nat)
  /-- the place is lost; the recessive run is counted from `since`: the gap is 18 bit times -/
  | lost (since : Nat)
  /-- a frame of another station is being followed -/
  | receiving
  /-- the station is sending its frame marked on the line -/
  | sending
  deriving DecidableEq, Repr

/-- The block that queued a frame (R18). -/
inductive Block where
  | startUp | allocator | tune | panel | report
  deriving DecidableEq, Repr

/-- One entry of the transmit queue (R18). -/
structure TxEntry where
  frame : Frame
  field : Nat
  owner : Block
  order : Nat
  onLine : Bool
  withdrawn : Bool
  followOn : Option (BitVec 16)
  deriving DecidableEq, Repr

/-- The six link counters, in the order of R25. -/
structure Counters where
  checkErrors : BitVec 16
  malformed : BitVec 16
  collisions : BitVec 16
  queueDrops : BitVec 16
  claimTimeouts : BitVec 16
  claimOverflows : BitVec 16
  deriving DecidableEq, Repr

/-- The Link Controller's items. `before` is the place from which the station began its frame marked on the line (R5); `notices` are
the loss notices of R23 being delivered inside the present event. -/
structure Link where
  place : Place
  before : Place
  queue : List TxEntry
  nextOrder : Nat
  counters : Counters
  consecutive : Nat
  notices : List Frame
  deriving DecidableEq, Repr

/-! ### Voice Allocator (03, 04) -/

/-- The eight voice states (R44). -/
inductive VoiceState where
  | idle | gating | held | sustained | releasing | tuneWait | tuning | retired
  deriving DecidableEq, Repr

/-- A note identity: source station and note (R43). -/
structure Ident where
  source : Station
  note : Note
  deriving DecidableEq, Repr

/-- A voice record (R43). -/
structure Voice where
  state : VoiceState
  ident : Option Ident
  velocity : Velocity
  lastNote : Option Note
  startTime : Option Nat
  idleSince : Option Nat
  releaseSince : Option Nat
  offPending : Bool
  nominated : Bool
  doneP1 : Bool
  doneP2 : Bool
  gapRun : Bool
  gapTimer : Option Nat
  minGateTimer : Option Nat
  releaseTimer : Option Nat
  deriving DecidableEq, Repr

/-- An entry of the per-source table (R46). -/
structure Source where
  sustain : Bool
  bend : Int
  deriving DecidableEq, Repr

/-- An entry of the pending claim list (R63). -/
structure Claim where
  ident : Ident
  velocity : Velocity
  voice : VoiceIdx
  rank : Nat
  openedAt : Nat
  timer : Nat
  expired : Bool
  deriving DecidableEq, Repr

/-! ### Pitch Engine (05) -/

/-- The Pitch Engine's items of one voice (R86). -/
structure Glide where
  pg : Int
  pt : Int
  timer : Option Nat
  clamp : Bool
  deriving DecidableEq, Repr

/-! ### CV Scheduler (06) -/

/-- The post groups (R102). -/
inductive Group where
  | u | m
  deriving DecidableEq, Repr

/-- A pending code with its group and marks (R108). -/
structure Pend where
  code : Code
  group : Group
  assign : Bool
  measure : Bool
  deriving DecidableEq, Repr

/-- An in-flight code with its group (absent for a rewrite) and marks (R108). -/
structure Flight where
  code : Code
  group : Option Group
  assign : Bool
  measure : Bool
  deriving DecidableEq, Repr

/-- A channel slot (R108). -/
structure Slot where
  lastWritten : Option Code
  writtenAt : Option Nat
  pending : Option Pend
  inFlight : Option Flight
  deriving DecidableEq, Repr

/-- The five steps of a write (R114). -/
inductive WriteStep where
  | gap | shift | ready | acquire | hold
  deriving DecidableEq, Repr

/-- The port state (R108): idle, or writing a slot, in a step that ends at `ends` (the ready wait: its limit). -/
inductive Port where
  | idle
  | writing (slot : SlotIdx) (step : WriteStep) (ends : Nat)
  deriving DecidableEq, Repr

/-- The scheduler's own items (R108, R118, R122). -/
structure Sched where
  port : Port
  lastBank : Option VoiceIdx
  timeouts : Nat
  started : Bool
  stopped : Bool
  deriving DecidableEq, Repr

/-! ### Panel Scanner (07) -/

/-- A knob's pickup state (R126). -/
inductive Pickup where
  | caught | waitUp | waitDown
  deriving DecidableEq, Repr

/-- A knob record (R126): the ring, oldest first, the reported reading R and the pickup state. The fill count, the
average and the position are computed from them. -/
structure Knob where
  ring : List (BitVec 12)
  reading : Option Nat
  pickup : Option Pickup
  deriving DecidableEq, Repr

/-- A switch record (R138). -/
structure Switch where
  closed : Bool
  run : Nat
  deriving DecidableEq, Repr

/-- The Panel Scanner's items. Bit c of `raw[r]` is set when switch 8r + c read closed in the present pass. -/
structure Panel where
  running : Bool
  knobs : Vector Knob 32
  switches : Vector Switch 64
  sample : Option (Fin 32)
  sampleEnd : Nat
  nextRound : Nat
  row : Fin 8
  rowEnd : Nat
  raw : Vector (BitVec 8) 8
  deriving DecidableEq, Repr

/-! ### Patch Unit (08) -/

/-- A morph record (R143). -/
structure Morph where
  start : Nat
  target : Nat
  startTime : Nat
  count : Nat
  made : Nat
  deriving DecidableEq, Repr

/-- An entry of the live table (R143). -/
structure Param where
  value : Nat
  morph : Option Morph
  deriving DecidableEq, Repr

/-! ### Memory Controller (09) -/

/-- The memory status (R159). -/
inductive MemStatus where
  | unknown | present | absent | failed
  deriving DecidableEq, Repr

/-- An entry of the memory request queue; `discard` is set by a Restart on the entry in flight (R168). -/
structure MemEntry where
  req : MemReq
  discard : Bool
  deriving DecidableEq, Repr

/-- What the memory port is doing (R158, R162). Its operation is that of the queue's first entry, but for the probe. -/
inductive MemPort where
  | idle
  | probing (ends : Nat)
  | reading (ends : Nat)
  | writing (ends : Nat)
  | polling (rise : Nat) (polls : Nat)
  deriving DecidableEq, Repr

/-- The Memory Controller's items. -/
structure MemCtl where
  status : MemStatus
  queue : List MemEntry
  port : MemPort
  deriving DecidableEq, Repr

/-! ### Tune Unit (10) -/

/-- The calibration state of one voice (R169). -/
structure Calib where
  osc1 : CalTable
  osc2 : CalTable
  calibrated : Bool
  failures : Fin 3
  drift : BitVec 16
  outcome : TuneOutcome
  deriving DecidableEq, Repr

/-- The sequencer states (R170). -/
inductive SeqState where
  | idle | select | waitSlot | measure | commit | endWait
  deriving DecidableEq, Repr

/-- The oscillators of a voice. -/
inductive Osc where
  | osc1 | osc2
  deriving DecidableEq, Repr

/-- The working tables and the position of the measurement in progress (R170). -/
structure TuneWork where
  tab1 : CalTable
  tab2 : CalTable
  osc : Osc
  k : Nat
  pass : Nat
  deriving DecidableEq, Repr

/-- The frequency counter (R171). -/
inductive FreqCounter where
  | idle
  | armed (periods : Nat) (limit : Nat)
  | counting (periods : Nat) (since : Nat)
  deriving DecidableEq, Repr

/-- The state of the tune in progress and of the instrument's tunes (R170). -/
structure Tune where
  list : List VoiceIdx
  seq : SeqState
  voice : Option VoiceIdx
  work : Option TuneWork
  result : Option (TuneOutcome × Byte)
  held : Option MemReq
  offline : List (Station × VoiceIdx)
  refreshMark : Bool
  refreshTimer : Option Nat
  settleTimer : Option Nat
  counter : FreqCounter
  deriving DecidableEq, Repr

/-! ### Pins -/

/-- The levels of the output pins at the events, gates apart (00_scope.md Pins, R29); `true` is high. Bit j of `sd` is SDj. What
VL, the DAC pins and the memory port's pins show between two events is computed from the state in Machine/Wire.lean (log 12). -/
structure Pins where
  dclk : Bool
  ddat : Bool
  dld : Bool
  shen : Bool
  bsel : BitVec 3
  csel : BitVec 3
  ksel : BitVec 4
  tsel : BitVec 4
  sd : BitVec 8
  mcs : Bool
  mck : Bool
  mdo : Bool
  deriving DecidableEq, Repr

/-- The station. -/
structure State where
  now : Nat
  pending : List Instr
  start : StartUp
  link : Link
  voices : Vector Voice 6
  gates : Vector Bool 6
  sources : Vector Source 8
  claims : List Claim
  glides : Vector Glide 6
  slots : Vector Slot 48
  sched : Sched
  panel : Panel
  live : Vector Param 16
  mem : MemCtl
  eeprom : List Host.Cell
  calib : Vector Calib 6
  tune : Tune
  pins : Pins
  freeCount : Nat
  deriving DecidableEq, Repr

/-! ### Reset values -/

/-- R42: phase STRAP, the defaults of Setup, nothing frozen, loads not done, timers stopped, NORMAL. Station ID, V and
flags: DESIGN CHOICE (log 7). Reset is still held (log 8). -/
def StartUp.reset : StartUp where
  resetHeld := true
  phase := .strap
  stationId := none
  voiceCount := 0
  scan := false
  strapClamp := false
  strapSlot := none
  sensedLow := 0
  slotTimer := none
  pickup := .catch
  limit := 2
  steal := .oldest
  initialPatch := 0
  frozen := false
  loadsDone := false
  load := .none
  listenTimer := none
  setupTimer := none
  fault := .normal
  silencing := none

/-- R25: the counters are 0 after power-on and RESETn. -/
def Counters.reset : Counters := ⟨0, 0, 0, 0, 0, 0⟩

/-- R18, R25, R26: empty queue, counters and consecutive collision count 0, nothing read in phase STRAP. -/
def Link.reset : Link where
  place := .notReading
  before := .notReading
  queue := []
  nextOrder := 0
  counters := Counters.reset
  consecutive := 0
  notices := []

/-- R45. -/
def Voice.reset : Voice where
  state := .idle
  ident := none
  velocity := 64
  lastNote := none
  startTime := none
  idleSince := none
  releaseSince := none
  offPending := false
  nominated := false
  doneP1 := false
  doneP2 := false
  gapRun := false
  gapTimer := none
  minGateTimer := none
  releaseTimer := none

/-- R46. -/
def Source.reset : Source := ⟨false, 0⟩

/-- R86: Pg and Pt at note 60. -/
def Glide.reset : Glide := ⟨15360, 15360, none, false⟩

/-- R108: unwritten, no pending code, no in-flight code, no marks. -/
def Slot.reset : Slot := ⟨none, none, none, none⟩

/-- R108: last bank none, count 0, port idle; not started before the end of LOADING. -/
def Sched.reset : Sched := ⟨.idle, none, 0, false, false⟩

/-- R126. -/
def Knob.reset : Knob := ⟨[], none, none⟩

/-- R138. -/
def Switch.reset : Switch := ⟨false, 0⟩

/-- R124, R126, R138: the scanner stopped and every record at its reset value. -/
def Panel.reset : Panel where
  running := false
  knobs := Vector.replicate 32 Knob.reset
  switches := Vector.replicate 64 Switch.reset
  sample := none
  sampleEnd := 0
  nextRound := 0
  row := 0
  rowEnd := 0
  raw := Vector.replicate 8 0

/-- A settled parameter. -/
def Param.settled (v : Nat) : Param := ⟨v, none⟩

/-- R143: the default live table. -/
def liveReset : Vector Param 16 :=
  #v[.settled 768, .settled 0, .settled 512, .settled 0, .settled 0, .settled 512, .settled 512, .settled 1023,
     .settled 0, .settled 0, .settled 171, .settled 512, .settled 512, .settled 64, .settled 0, .settled 512]

/-- R159, R160. -/
def MemCtl.reset : MemCtl := ⟨.unknown, [], .idle⟩

/-- R97: the nominal table C(k) = 2048 + 5760 × k. -/
def nominalTable : CalTable :=
  #v[2048, 7808, 13568, 19328, 25088, 30848, 36608, 42368, 48128, 53888, 59648]

/-- R169: nominal tables, uncalibrated, count 0, drift 0, outcome OK. -/
def Calib.reset : Calib := ⟨nominalTable, nominalTable, false, 0, 0, .ok⟩

/-- R170. -/
def Tune.reset : Tune where
  list := []
  seq := .idle
  voice := none
  work := none
  result := none
  held := none
  offline := []
  refreshMark := false
  refreshTimer := none
  settleTimer := none
  counter := .idle

/-- R29, R158, R170: the STRAP-FAULT levels. -/
def Pins.reset : Pins where
  dclk := false
  ddat := false
  dld := false
  shen := false
  bsel := 0
  csel := 0
  ksel := 0
  tsel := 0
  sd := 0xFF
  mcs := true
  mck := false
  mdo := false

/-- The station right after reset (R42), with the reset still held (log 8). -/
def State.reset : State where
  now := 0
  pending := []
  start := StartUp.reset
  link := Link.reset
  voices := Vector.replicate 6 Voice.reset
  gates := Vector.replicate 6 false
  sources := Vector.replicate 8 Source.reset
  claims := []
  glides := Vector.replicate 6 Glide.reset
  slots := Vector.replicate 48 Slot.reset
  sched := Sched.reset
  panel := Panel.reset
  live := liveReset
  mem := MemCtl.reset
  eeprom := []
  calib := Vector.replicate 6 Calib.reset
  tune := Tune.reset
  pins := Pins.reset
  freeCount := 0

end Sys2Proof.Machine
end

