-- ==== Sys2Proof/Machine/Flags.lean ====
section
/-!
DEFINITION. The station's conditions and status codes: which phases and fault states let a block act, the saturating link
counters (R25), and the codes that Reports carry (R44, R198).
-/
namespace Sys2Proof.Machine
open Sys2Proof

/-! ### Conditions on phase and fault state -/

/-- Phases LISTEN to RUNNING. -/
def Phase.joined : Phase → Bool
  | .listen | .announce | .awaitSetup | .loading | .running => true
  | .strap | .strapFault => false

/-- The transmitter is enabled (R7). -/
def txEnabled (s : State) : Bool := s.start.phase.joined && s.start.fault != .silent

/-- RUNNING with fault state NORMAL: notes, claims and tune requests are acted on (R44, R64, R172). -/
def playing (s : State) : Bool := s.start.phase == .running && s.start.fault == .normal

/-- RUNNING with fault state NORMAL or MUTED: the patch, the offline set and Hellos are followed (R56, R144, R175). -/
def following (s : State) : Bool := s.start.phase == .running && s.start.fault != .silent

/-- Frames other than a targeted Restart are dispatched (R17). -/
def dispatching (s : State) : Bool := s.start.phase.joined && s.start.fault != .silent

/-- A targeted Restart is dispatched, in SILENT too (R17, R40). -/
def dispatchesRestart (s : State) : Bool := s.start.phase.joined

/-- A targeted Query is answered (R198). -/
def answersQueries (s : State) : Bool :=
  dispatching s && s.start.phase != .listen

/-- The line is read and the station is not sending: a frame of another transmitter can be read (R5, R26). -/
def canReceive (s : State) : Bool :=
  match s.link.place with
  | .notReading | .sending => false
  | .inPlace _ | .closed _ _ | .lost _ | .receiving => true

/-- The station ID; it is not read before strap sensing has decided it. -/
def stationId (s : State) : Station := s.start.stationId.getD 0

/-- Voice u is one of the station's V voices (R28, R62). -/
def served (s : State) (u : VoiceIdx) : Bool := u.val < s.start.voiceCount.val

/-- A voice whose channels the Pitch Engine recomputes (R101). -/
def VoiceState.computed : VoiceState → Bool
  | .idle | .gating | .held | .sustained | .releasing => true
  | .tuneWait | .tuning | .retired => false

/-- GATING, HELD or SUSTAINED: the states that All-Notes-Off and Hello release (R53, R56). -/
def VoiceState.playsNote : VoiceState → Bool
  | .gating | .held | .sustained => true
  | _ => false

/-- The states in which R100 forces LVL to 0 whatever the fault state. -/
def VoiceState.tuneForced : VoiceState → Bool
  | .tuneWait | .tuning | .retired => true
  | _ => false

/-- LVL of voice u is forced to 0 (R100). -/
def levelForced (s : State) (u : VoiceIdx) : Bool :=
  s.voices[u].state.tuneForced || s.start.fault != .normal

/-- The CV Scheduler makes selections (R112). -/
def selecting (s : State) : Bool := s.sched.started && !s.sched.stopped

/-! ### Counters (R25) -/

/-- A counter that rises by 1 and stays at 65535. -/
def countUp (c : BitVec 16) : BitVec 16 := if c = 0xFFFF then c else c + 1

def Counters.addCheckError (c : Counters) : Counters := { c with checkErrors := countUp c.checkErrors }
def Counters.addMalformed (c : Counters) : Counters := { c with malformed := countUp c.malformed }
def Counters.addCollision (c : Counters) : Counters := { c with collisions := countUp c.collisions }
def Counters.addQueueDrop (c : Counters) : Counters := { c with queueDrops := countUp c.queueDrops }
def Counters.addClaimTimeout (c : Counters) : Counters := { c with claimTimeouts := countUp c.claimTimeouts }
def Counters.addClaimOverflow (c : Counters) : Counters := { c with claimOverflows := countUp c.claimOverflows }

/-- The six counters in the order of R25. -/
def Counters.toList (c : Counters) : List (BitVec 16) :=
  [c.checkErrors, c.malformed, c.collisions, c.queueDrops, c.claimTimeouts, c.claimOverflows]

/-! ### Codes -/

/-- The phase code (02, head table). -/
def Phase.code : Phase → Byte
  | .strap => 0 | .listen => 1 | .announce => 2 | .awaitSetup => 3 | .loading => 4 | .running => 5 | .strapFault => 6

/-- The fault state code (R198); SILENT is never reported. -/
def FaultState.code : FaultState → Byte
  | .normal => 0 | .muted => 1 | .silent => 2

/-- The fault code (R192). -/
def FaultCode.code : FaultCode → Byte
  | .dacStall => 1 | .dupId => 2

/-- The voice state code (R44). -/
def VoiceState.code : VoiceState → Byte
  | .idle => 0 | .gating => 1 | .held => 2 | .sustained => 3 | .releasing => 4 | .tuneWait => 5 | .tuning => 6 | .retired => 7

end Sys2Proof.Machine
end

