-- ==== Sys2Proof/Machine/Operands.lean ====
section
/-!
DEFINITION. How the operands of the chapters' formulas are read: clamping and rounding, the quantities of the live
parameters (R87), table lookups, the calibration mapping (R95), the tuning error and correction (R182, R183), and the
EEPROM page formats (R164 to R166).
-/
namespace Sys2Proof.Machine
open Sys2Proof

/-! ### Clamping and rounding (00_scope.md, Arithmetic) -/

/-- A value clamped to a range. -/
def clampInt (lo hi v : Int) : Int := if v < lo then lo else if hi < v then hi else v

/-- A value clamped to 0–65535, as a code. -/
def clampCode (v : Int) : Code := BitVec.ofNat 16 (clampInt 0 65535 v).toNat

/-- A quotient rounded to nearest with halves away from zero, as R183 writes it: sign(x) × floor((|x| + d ÷ 2) ÷ d). -/
def roundAway (x : Int) (d : Nat) : Int := x.sign * Int.ofNat ((x.natAbs + d / 2) / d)

/-- A Param or Knob value clamped to 1023 (R145). -/
def clampParam (v : BitVec 16) : Nat := min v.toNat 1023

/-! ### Tables -/

/-- C(k) of a calibration table, for k up to 10. -/
def tabAt (t : CalTable) (k : Nat) : Code := t[min k 10]'(by omega)

/-- The table with C(k) replaced. -/
def tabSet (t : CalTable) (k : Nat) (c : Code) : CalTable := t.set (min k 10) c (by omega)

/-- A calibration table is strictly increasing over its 11 points (R96, R165, R185). -/
def increasing (t : CalTable) : Bool := (List.range 10).all fun k => tabAt t k < tabAt t (k + 1)

/-- The first breakpoint from 1 to 10 whose code is not above the one below it (R185). -/
def firstDescent (t : CalTable) : Option Nat :=
  ((List.range 10).map (· + 1)).find? fun k => ¬ tabAt t (k - 1) < tabAt t k

/-! ### Live parameters (R87) -/

/-- The raw value of live parameter p, for p up to 15. -/
def liveAt (live : Vector Param 16) (p : Nat) : Nat := (live[min p 15]'(by omega)).value

/-- v >> 3: KT, VC, VL and g. -/
def eighth (v : Nat) : Nat := v / 8
/-- BR = (v × 13) >> 10 semitones. -/
def bendRange (v : Nat) : Nat := v * 13 / 1024
/-- I and T = ((v × 49) >> 10) − 24 semitones. -/
def semitones (v : Nat) : Int := Int.ofNat (v * 49 / 1024) - 24
/-- D = (v >> 2) − 128 pitch units. -/
def detune (v : Nat) : Int := Int.ofNat (v / 4) - 128
/-- The release hold, v × 8 ms. -/
def releaseHoldMs (v : Nat) : Nat := v * 8
/-- The spread step, v >> 6 pitch units. -/
def spreadStep (v : Nat) : Nat := v / 64

/-! ### Pitch formulas (R90 to R100) -/

/-- B = bend × BR × 256 ÷ 8192, truncated toward zero (R90). -/
def bendTerm (bend : Int) (br : Nat) : Int := (bend * br * 256).tdiv 8192

/-- SP = (2u + 1 − V) × step (R91). -/
def spreadOffset (u v step : Nat) : Int := (2 * (u : Int) + 1 - v) * step

/-- Whether a composed pitch lies outside 0–32767 (R91). -/
def outOfPitch (p : Int) : Bool := p < 0 || 32767 < p

/-- A composed pitch clamped to 0–32767 (R91). -/
def clampPitch (p : Int) : Int := clampInt 0 32767 p

/-- The rate of a glide step: floor(65536 ÷ g²), for g from 1 (R93). -/
def glideRate (g : Nat) : Nat := 65536 / (g * g)

/-- One glide step of Pg toward Pt (R93). -/
def glideMove (g : Nat) (pg pt : Int) : Int :=
  if g = 0 then pt
  else if (pt - pg).natAbs ≤ glideRate g then pt
  else if pg < pt then pg + glideRate g
  else pg - glideRate g

/-- The code of a clamped pitch P (R95). -/
def pitchCode (t : CalTable) (p : Nat) : Code :=
  let k := min (p / 3072) 9
  let f : Int := p - 3072 * k
  let d : Int := (tabAt t (k + 1)).toNat - (tabAt t k).toNat
  let q : Int := (d * f + 1536).fdiv 3072
  clampCode ((tabAt t k).toNat + q)

/-- CUT (R98). -/
def cutCode (cutoff kt vc vel : Nat) (p1 : Int) : Code :=
  clampCode (cutoff * 64 + ((p1 - 15360) * kt).tdiv 128 + ((vc * vel / 2 : Nat) : Int))

/-- LVL when it is not forced (R100). -/
def levelCode (level vl vel : Nat) : Code := clampCode ((level : Int) * 64 - vl * (127 - vel) * 4)

/-- RES, EGA, PW and MIX: v × 64 (R99). -/
def directCode (v : Nat) : Code := clampCode (v * 64)

/-! ### Morphs and pickup -/

/-- v = a + trunc((t − a) × j ÷ m), the live value at step j of m (R151). -/
def morphValue (a t j m : Nat) : Nat := ((a : Int) + (((t : Int) - a) * j).tdiv m).toNat

/-- v′ of RELATIVE pickup for a move from q₀ to q with base value v (R132). -/
def relativeValue (q0 q v : Nat) : Nat :=
  if q0 < q then v + (q - q0) * (1023 - v) / (1023 - q0) else v - (q0 - q) * v / q0

/-- WAIT-UP if q < v, WAIT-DOWN if q > v, CAUGHT if q = v (R127, R134). -/
def pickupAgainst (q v : Nat) : Pickup := if q < v then .waitUp else if v < q then .waitDown else .caught

/-! ### Tuning (R181 to R185) -/

/-- N = 2^(k − 1) periods at breakpoint k (R181). -/
def periodsAt (k : Nat) : Nat := 2 ^ (k - 1)

/-- e = round(3072 × log₂(T ÷ T*)), halves away from zero (R182). Computed exactly: with y = 6144 × log₂(a ÷ b) for a ≥ b,
round(y ÷ 2) = floor((y + 1) ÷ 2), and floor y is the logarithm of floor(a^6144 ÷ b^6144). -/
def tuneError (t : Nat) : Int :=
  if Config.targetCount ≤ t then
    Int.ofNat ((Nat.log2 (t ^ 6144 / Config.targetCount ^ 6144) + 1) / 2)
  else
    - Int.ofNat ((Nat.log2 (Config.targetCount ^ 6144 / t ^ 6144) + 1) / 2)

/-- S = max(1, trunc((C(k + 1) − C(k − 1)) ÷ 2)) (R183). -/
def tuneSlope (t : CalTable) (k : Nat) : Int :=
  max 1 (((tabAt t (k + 1)).toNat - (tabAt t (k - 1)).toNat : Int).tdiv 2)

/-- The working table after a correction of breakpoint k by error e (R183). -/
def tuneCorrect (t : CalTable) (k : Nat) (e : Int) : CalTable :=
  tabSet t k (clampCode ((tabAt t k).toNat + roundAway (e * tuneSlope t k) 3072))

/-- C(0) and C(10) extrapolated from their neighbours (R185). -/
def tuneComplete (t : CalTable) : CalTable :=
  tabSet (tabSet t 0 (clampCode (2 * (tabAt t 1).toNat - (tabAt t 2).toNat)))
    10 (clampCode (2 * (tabAt t 9).toNat - (tabAt t 8).toNat))

/-- The largest |new C(k) − old C(k)| of one table (R185). -/
def tableDrift (new old : CalTable) : Nat :=
  (List.range 11).foldl (fun m k => max m ((tabAt new k).toNat - (tabAt old k).toNat : Int).natAbs) 0

/-- The number of an oscillator, 1 or 2. -/
def Osc.num : Osc → Nat
  | .osc1 => 1 | .osc2 => 2

/-- The detail 16 × o + k (R184). -/
def tuneDetail (o : Osc) (k : Nat) : Byte := byteOf (16 * o.num + k)

/-! ### EEPROM pages (12, EEPROM pages; R164 to R166) -/

/-- Byte i of a page. -/
def pageAt (page : Vector Byte 64) (i : Nat) : Byte := page[min i 63]'(by omega)

/-- The two-byte number at byte i of a page. -/
def pageWord (page : Vector Byte 64) (i : Nat) : BitVec 16 := ofTwoBytes (pageAt page i) (pageAt page (i + 1))

/-- The CRC of bytes 0 to 62 (R164). -/
def pageCrc (page : Vector Byte 64) : Byte := crc8 ((page.toList.take 63).flatMap bitsMsb)

/-- A page of 63 content bytes, zeros after the given ones, and its CRC (R166). -/
def closePage (content : List Byte) : Vector Byte 64 :=
  let body := Vector.ofFn (n := 64) fun i => if i.val < 63 then content.getD i.val 0 else 0
  body.set 63 (pageCrc body)

/-- The page of a STORE-WRITE (R166). -/
def patchPage (slot : PatchSlot) (values : Vector Nat 16) : Vector Byte 64 :=
  closePage (0x5A :: byteOf slot.val :: values.toList.flatMap fun v => twoBytes (BitVec.ofNat 16 v))

/-- The page of a CAL-WRITE (R166). -/
def calPage (u : VoiceIdx) (osc1 osc2 : CalTable) (failures : Fin 3) (drift : BitVec 16) (outcome : TuneOutcome) :
    Vector Byte 64 :=
  closePage (0xC3 :: byteOf u.val :: (osc1.toList.flatMap twoBytes ++ osc2.toList.flatMap twoBytes
    ++ byteOf failures.val :: (twoBytes drift ++ [outcome.code])))

/-- What a patch page is judged to be (R164). -/
inductive PatchPage where
  | empty
  | bad
  | valid (values : Vector Nat 16)
  deriving DecidableEq, Repr

/-- R164: marker, then CRC and slot; a stored value above 1023 reads as 1023. -/
def judgePatch (slot : PatchSlot) (page : Vector Byte 64) : PatchPage :=
  if pageAt page 0 ≠ 0x5A then .empty
  else if pageCrc page ≠ pageAt page 63 ∨ pageAt page 1 ≠ byteOf slot.val then .bad
  else .valid (Vector.ofFn fun p => min (pageWord page (2 + 2 * p.val)).toNat 1023)

/-- A stored outcome: as stored from 0 to 5, and OK above 5 (R165). -/
def storedOutcome (b : Byte) : TuneOutcome :=
  match TuneOutcome.ofCode b with
  | some .aborted | none => .ok
  | some o => o

/-- R165: the calibration state that a calibration page gives, if it is valid. -/
def judgeCal (u : VoiceIdx) (page : Vector Byte 64) : Option Calib :=
  let osc1 : CalTable := Vector.ofFn fun k => pageWord page (2 + 2 * k.val)
  let osc2 : CalTable := Vector.ofFn fun k => pageWord page (24 + 2 * k.val)
  match below 3 (pageAt page 46) with
  | none => none
  | some failures =>
    if pageAt page 0 = 0xC3 ∧ pageAt page 1 = byteOf u.val ∧ pageCrc page = pageAt page 63
        ∧ increasing osc1 ∧ increasing osc2 then
      some ⟨osc1, osc2, true, failures, pageWord page 47, storedOutcome (pageAt page 49)⟩
    else none

/-- The page number of a request (R160). -/
def MemReq.page : MemReq → Nat
  | .recallRead slot _ | .storeWrite slot _ => slot.val
  | .calWrite u _ _ _ _ _ | .calRead u => 64 + u.val

/-- Whether a request is served as a page write (R160). -/
def MemReq.isWrite : MemReq → Bool
  | .storeWrite _ _ | .calWrite _ _ _ _ _ _ => true
  | .recallRead _ _ | .calRead _ => false

/-- Whether a request is a RECALL-READ. -/
def MemReq.isRecall : MemReq → Bool
  | .recallRead _ _ => true
  | _ => false

/-- The 64 bytes of a page write (R166); a read writes none. -/
def MemReq.image : MemReq → Option (Vector Byte 64)
  | .storeWrite slot values => some (patchPage slot values)
  | .calWrite u o1 o2 f d o => some (calPage u o1 o2 f d o)
  | .recallRead _ _ | .calRead _ => none

end Sys2Proof.Machine
end

