-- ==== Sys2Proof/Machine/Ops.lean ====
section
/-!
DEFINITION. The named operations over the station's tables: the clock, one update per table, the EEPROM's bytes, and the
transmit queue with its coalescing, eviction and withdrawal (R18 to R23).
-/
namespace Sys2Proof.Machine
open Sys2Proof

/-! ### The clock (00_scope.md, Time base) -/

/-- The local millisecond counter. -/
def State.ms (s : State) : Nat := s.now / 1000

/-- The clock moved forward to `t`, if it has not passed it: the end of a timer whose expiry is commanded (log 3). -/
def advanceTo (t : Nat) (s : State) : State := { s with now := max s.now t }

/-- One microsecond with no event (log 1). -/
def tick (s : State) : State := { s with now := s.now + 1 }

/-! ### One update per table -/

/-- The element at `i` changed by `f`. -/
def updAt {α : Type} {n : Nat} (v : Vector α n) (i : Fin n) (f : α → α) : Vector α n := v.set i.val (f v[i]) i.isLt

def updVoice (u : VoiceIdx) (f : Voice → Voice) (s : State) : State := { s with voices := updAt s.voices u f }
def setGate (u : VoiceIdx) (high : Bool) (s : State) : State := { s with gates := updAt s.gates u fun _ => high }
/-- Every gate goes low (R40, R60). -/
def gatesLow (s : State) : State := { s with gates := Vector.replicate 6 false }
def updSource (i : Station) (f : Source → Source) (s : State) : State := { s with sources := updAt s.sources i f }
def updGlide (u : VoiceIdx) (f : Glide → Glide) (s : State) : State := { s with glides := updAt s.glides u f }
def updSlot (i : SlotIdx) (f : Slot → Slot) (s : State) : State := { s with slots := updAt s.slots i f }
def updParam (p : Fin 16) (f : Param → Param) (s : State) : State := { s with live := updAt s.live p f }
def updCalib (u : VoiceIdx) (f : Calib → Calib) (s : State) : State := { s with calib := updAt s.calib u f }
def updKnob (i : Fin 32) (f : Knob → Knob) (s : State) : State :=
  { s with panel := { s.panel with knobs := updAt s.panel.knobs i f } }
def updLink (f : Link → Link) (s : State) : State := { s with link := f s.link }
def updStart (f : StartUp → StartUp) (s : State) : State := { s with start := f s.start }
def updSched (f : Sched → Sched) (s : State) : State := { s with sched := f s.sched }
def updPanel (f : Panel → Panel) (s : State) : State := { s with panel := f s.panel }
def updMem (f : MemCtl → MemCtl) (s : State) : State := { s with mem := f s.mem }
def updTune (f : Tune → Tune) (s : State) : State := { s with tune := f s.tune }
def updPins (f : Pins → Pins) (s : State) : State := { s with pins := f s.pins }
/-- A counter of R25 changed. -/
def count (f : Counters → Counters) (s : State) : State :=
  { s with link := { s.link with counters := f s.link.counters } }

/-- `f` applied for each of the station's voices, in ascending order. -/
def forVoices (f : VoiceIdx → State → State) (s : State) : State :=
  (List.finRange 6).foldl (fun t u => if served t u then f u t else t) s

/-! ### The EEPROM's bytes (09; log 9) -/

namespace Memory

/-- What a byte of the EEPROM reads as when nothing has written it: erased (log 9; R164: "An erased page reads 0xFF
throughout"). -/
def erased : Byte := 0xFF

/-- The canonical form: addresses strictly rising and below 32 KiB, no entry equal to an erased byte. -/
def wf (m : List Host.Cell) : Bool :=
  m.Pairwise (fun a b => a.1 < b.1) && m.all fun c => c.1 < 32768 && c.2 != erased

/-- The byte at an address. -/
def read (a : Nat) : List Host.Cell → Byte
  | [] => erased
  | (b, v) :: rest => if a = b then v else read a rest

/-- The byte at an address replaced; writing an erased byte removes the entry. -/
def write (a : Nat) (v : Byte) : List Host.Cell → List Host.Cell
  | [] => if v = erased then [] else [(a, v)]
  | (b, w) :: rest =>
    if a < b then (if v = erased then (b, w) :: rest else (a, v) :: (b, w) :: rest)
    else if a = b then (if v = erased then rest else (b, v) :: rest)
    else (b, w) :: write a v rest

/-- Consecutive bytes written from address `a` on. -/
def writeBytes (a : Nat) : List Byte → List Host.Cell → List Host.Cell
  | [], m => m
  | v :: rest, m => writeBytes (a + 1) rest (write a v m)

/-- The 64 bytes of page p, at addresses 64 p on (R158). -/
def page (p : Nat) (m : List Host.Cell) : Vector Byte 64 := Vector.ofFn fun i => read (64 * p + i.val) m

/-- Page p replaced. -/
def writePage (p : Nat) (bytes : Vector Byte 64) (m : List Host.Cell) : List Host.Cell :=
  writeBytes (64 * p) bytes.toList m

end Memory

/-- The page of a write that failed or was cut off: 64 free bytes (R167, R168; log 10). -/
def spoilPage (p : Nat) (s : State) : State :=
  { s with
    eeprom := Memory.writePage p (Vector.ofFn fun i => Config.freePageByte (s.freeCount + i.val)) s.eeprom
    freeCount := s.freeCount + 64 }

/-! ### The transmit queue (R18 to R23) -/

/-- The kinds whose loss is notified (R23). -/
def hasLossNotice : Frame → Bool
  | .claim _ _ _ | .tuneBegin _ _ | .tuneEnd _ _ _ | .hello _ _ _ _ => true
  | _ => false

/-- The block that sends frames of a kind (R18; Classes and kinds). -/
def ownerOf : Frame → Block
  | .claim _ _ _ => .allocator
  | .tuneBegin _ _ | .tuneEnd _ _ _ => .tune
  | .knob _ _ | .switch _ _ => .panel
  | .hello _ _ _ _ => .startUp
  | _ => .report

/-- The rank the sender places in the arbitration field (R15); a Claim's is its claim rank, given when it is queued. -/
def rankOf : Frame → Nat
  | .tuneBegin u _ | .tuneEnd u _ _ => u.val
  | .knob k _ => k.toNat
  | .param p _ => p.toNat
  | .recall s _ | .store s => s.toNat
  | .switch n _ => n.toNat
  | _ => 0

/-- An entry is the Knob entry for knob k (R20). -/
def isKnobFor (k : Byte) (e : TxEntry) : Bool :=
  match e.frame with
  | .knob k' _ => k' == k
  | _ => false

/-- The queue with `e` after every entry whose field is lower than or equal to its own (R19). -/
def insertEntry (e : TxEntry) : List TxEntry → List TxEntry
  | [] => [e]
  | x :: rest => if x.field ≤ e.field then x :: insertEntry e rest else e :: x :: rest

/-- The last entry in queue order that is not on the line (R21). -/
def worstEntry (q : List TxEntry) : Option TxEntry := (q.filter fun e => !e.onLine).getLast?

/-- The queue without the entry of an order number. -/
def removeOrder (n : Nat) (q : List TxEntry) : List TxEntry := q.filter fun e => e.order != n

/-- The entry on the line (R18). -/
def onLineEntry (s : State) : Option TxEntry := s.link.queue.find? fun e => e.onLine

/-- A loss notice, if the frame's kind has one (R23); it is delivered inside the present event (log 16). -/
def giveNotice (f : Frame) (l : Link) : Link :=
  if hasLossNotice f then { l with notices := l.notices ++ [f] } else l

/-- A new entry made and entered (R19). -/
def enterFrame (f : Frame) (field : Nat) (l : Link) : Link :=
  { l with queue := insertEntry ⟨f, field, ownerOf f, l.nextOrder, false, false, none⟩ l.queue
           nextOrder := l.nextOrder + 1 }

/-- R19, R21: entered when there is room; else the worst entry is evicted or the frame dropped, and the loss counted. -/
def enterOrEvict (f : Frame) (field : Nat) (l : Link) : Link :=
  if l.queue.length < Config.txCapacity then enterFrame f field l
  else
    let l := { l with counters := l.counters.addQueueDrop }
    match worstEntry l.queue with
    | some w =>
      if field < w.field then
        giveNotice w.frame (enterFrame f field { l with queue := removeOrder w.order l.queue })
      else giveNotice f l
    | none => giveNotice f l

/-- R20: the new value of a Knob entry: in place, or as its follow-on value while it is on the line; its withdrawal mark
is cleared. -/
def coalesceKnob (k : Byte) (v : BitVec 16) (e : TxEntry) : TxEntry :=
  if isKnobFor k e then
    if e.onLine then { e with followOn := some v, withdrawn := false }
    else { e with frame := .knob k v, withdrawn := false }
  else e

/-- A frame handed to the Link Controller with the rank of its field (R15, R19, R20, R21). -/
def handRanked (f : Frame) (rank : Nat) (s : State) : State :=
  if txEnabled s then
    match f with
    | .knob k v =>
      if s.link.queue.any (isKnobFor k) then
        { s with link := { s.link with queue := s.link.queue.map (coalesceKnob k v) } }
      else { s with link := enterOrEvict f (arbField f.cls rank (stationId s).val) s.link }
    | _ => { s with link := enterOrEvict f (arbField f.cls rank (stationId s).val) s.link }
  else s

/-- A frame handed over with the rank of its kind (R15, R19). -/
def hand (f : Frame) (s : State) : State := handRanked f (rankOf f) s

/-- R22: frames selected by content are withdrawn: at once when not on the line, else by the withdrawal mark, which
discards the follow-on value. -/
def withdraw (sel : Frame → Bool) (s : State) : State :=
  { s with link := { s.link with
      queue := (s.link.queue.filter fun e => e.onLine || !sel e.frame).map fun e =>
        if sel e.frame then { e with withdrawn := true, followOn := none } else e } }

/-- The Claim for a note identity. -/
def isClaimFor (i : Ident) : Frame → Bool
  | .claim s n _ => s == i.source && n == i.note
  | _ => false

/-- A Tune-Begin for voice w with the refresh flag r. -/
def isTuneBegin (w : VoiceIdx) (r : Bool) : Frame → Bool
  | .tuneBegin u r' => u == w && r' == r
  | _ => false

/-- The Knob frame for knob k. -/
def isKnobFrame (k : Byte) : Frame → Bool
  | .knob k' _ => k' == k
  | _ => false

/-- The queued value of knob k: the follow-on value, else the value; a withdrawn entry is no longer queued in this sense
(R20, R129). -/
def queuedKnob (k : Byte) (s : State) : Option (BitVec 16) :=
  match s.link.queue.find? fun e => isKnobFor k e && !e.withdrawn with
  | some e =>
    match e.followOn, e.frame with
    | some v, _ => some v
    | none, .knob _ v => some v
    | none, _ => none
  | none => none

/-- The place in the line changed. -/
def setPlace (p : Place) (s : State) : State := { s with link := { s.link with place := p } }

/-- The entry whose frame the station is sending. -/
def sendingEntry (s : State) : Option TxEntry :=
  match s.link.place with
  | .sending => onLineEntry s
  | _ => none

/-- The frame of an entry as it goes on the line (R4, R15). -/
def TxEntry.sent (e : TxEntry) (s : State) : RawFrame := e.frame.raw (e.field / 8 % 256) (stationId s)

/-- The end of the last dominant bit that a station at a place has read, or the start of the bit from which it counts its recessive run
again; `free` recessive bits closed a taken frame of another station (R5). -/
def Place.lastDominant (free : Nat) : Place → Option Nat
  | .inPlace t => some (t - Config.bitUs * free)
  | .closed t closing => some (t - Config.bitUs * closing)
  | .lost t => some t
  | .notReading | .receiving | .sending => none

/-- The recessive bits that closed a taken frame of another station: 3 to 8, by the next free value (R5; log 36). -/
def freeClosing (s : State) : Nat := 3 + Config.freeClosing s.freeCount % 6

/-- The place lost by a station that has read some bits of its own frame: the run of R5 is counted from the last dominant bit of them,
and without one from the last dominant bit before the frame (log 36). -/
def lostHaving (read : List Bool) (s : State) : Place :=
  match read.all id, s.link.before.lastDominant (freeClosing s) with
  | true, some t => .lost t
  | _, _ => .lost (s.now - Config.bitUs * recessiveTail read)

/-- The station leaves the line in its own frame, of which it has read some bits; a free value is used up (R5, R7, R10). -/
def leaveLine (read : List Bool) (s : State) : State :=
  { setPlace (lostHaving read s) s with freeCount := s.freeCount + 1 }

/-- The frame on the line is a Claim for this identity (R72). -/
def claimOnLine (i : Ident) (s : State) : Bool :=
  s.link.queue.any fun e => e.onLine && isClaimFor i e.frame

end Sys2Proof.Machine
end

