-- ==== Sys2Proof/Machine/Scheduler.lean ====
section
/-!
DEFINITION. The CV Scheduler (06): posting (R109, R110), the choice of the next write (R112), the start of a write (R113,
R114), its completion (R115), its abandonment (R116), and its stop in SILENT (R122).
-/
namespace Sys2Proof.Machine
open Sys2Proof

/-- The slot of channel c of voice u: 8u + c (R107). -/
def slotOf (u : VoiceIdx) (c : Fin 8) : SlotIdx := ⟨8 * u.val + c.val, by omega⟩

/-- The voice whose bank a slot lies in (R107). -/
def voiceOf (i : SlotIdx) : VoiceIdx := ⟨i.val / 8, by omega⟩

/-- The channel of a slot (R107). -/
def channelOf (i : SlotIdx) : Fin 8 := ⟨i.val % 8, by omega⟩

/-- The channels P1, P2 and LVL (R107). -/
def chP1 : Fin 8 := 0
def chP2 : Fin 8 := 1
def chLvl : Fin 8 := 7

/-- The acquire time of a channel: 12 µs for P1 and P2, 6 µs for the others (R107). -/
def acquireUs (c : Fin 8) : Nat := if c.val < 2 then 12 else 6

/-! ### Posting (R109 to R111) -/

/-- The reference code: the pending code, else the in-flight code, else the last-written code (R109). -/
def Slot.reference (sl : Slot) : Option Code :=
  match sl.pending, sl.inFlight with
  | some p, _ => some p.code
  | none, some f => some f.code
  | none, none => sl.lastWritten

/-- Group U if either is (R109, R116). -/
def Group.join : Group → Group → Group
  | .m, .m => .m
  | _, _ => .u

/-- A post taken by a slot (R109). -/
def Slot.post (code : Code) (g : Group) (assign measure : Bool) (sl : Slot) : Slot :=
  match sl.pending with
  | some p => { sl with pending := some ⟨code, p.group.join g, p.assign || assign, p.measure || measure⟩ }
  | none =>
    if sl.reference = some code ∧ assign = false ∧ measure = false then sl
    else { sl with pending := some ⟨code, g, assign, measure⟩ }

/-- A post to slot i (R109). -/
def post (i : SlotIdx) (code : Code) (g : Group) (assign measure : Bool) (s : State) : State :=
  updSlot i (Slot.post code g assign measure) s

/-- A post made only when the code differs from the slot's reference code (R102, R109). -/
def postIfDiffers (i : SlotIdx) (code : Code) (g : Group) (s : State) : State :=
  if s.slots[i].reference = some code then s else post i code g false false s

/-- A slot without its assignment mark (R110). -/
def Slot.cancelAssign (sl : Slot) : Slot :=
  { sl with pending := sl.pending.map fun p => { p with assign := false }
            inFlight := sl.inFlight.map fun f => { f with assign := false } }

/-- A slot without its measure mark (R110). -/
def Slot.cancelMeasure (sl : Slot) : Slot :=
  { sl with pending := sl.pending.map fun p => { p with measure := false }
            inFlight := sl.inFlight.map fun f => { f with measure := false } }

/-- The voice's assignment marks cancelled (R48, R110). -/
def cancelAssign (u : VoiceIdx) (s : State) : State :=
  updSlot (slotOf u chP2) Slot.cancelAssign (updSlot (slotOf u chP1) Slot.cancelAssign s)

/-- The voice's measure marks cancelled (R110). -/
def cancelMeasure (u : VoiceIdx) (s : State) : State :=
  updSlot (slotOf u chP2) Slot.cancelMeasure (updSlot (slotOf u chP1) Slot.cancelMeasure s)

/-! ### Choosing the next write (R112) -/

/-- A slot's age on the microsecond timer, for a written slot (R108). -/
def slotAge (s : State) (i : SlotIdx) : Option Nat := s.slots[i].writtenAt.map fun t => s.now - t

/-- A written slot whose age is at least `a`. -/
def aged (a : Nat) (s : State) (i : SlotIdx) : Bool :=
  match slotAge s i with
  | some x => a ≤ x
  | none => false

/-- A slot with a pending code in group g. -/
def pendingIn (g : Group) (s : State) (i : SlotIdx) : Bool :=
  match s.slots[i].pending with
  | some p => p.group == g
  | none => false

/-- The slots of the station's voices, in slot-number order (R107). -/
def slotsServed (s : State) : List SlotIdx := (List.finRange 48).filter fun i => served s (voiceOf i)

/-- The candidate written longest ago, equal times by lowest slot number (R112, tiers 1 and 4). -/
def oldestOf (s : State) : List SlotIdx → Option SlotIdx
  | [] => none
  | i :: rest =>
    match oldestOf s rest with
    | none => some i
    | some j => if s.slots[j].writtenAt.getD 0 < s.slots[i].writtenAt.getD 0 then some j else some i

/-- A candidate in the last bank first, then the lowest slot number (R112, tiers 2 and 3). -/
def bankFirst (s : State) (l : List SlotIdx) : Option SlotIdx :=
  match l.find? fun i => s.sched.lastBank == some (voiceOf i) with
  | some i => some i
  | none => l.head?

/-- Tier 1: forced refresh. -/
def tier1 (s : State) : Option SlotIdx := oldestOf s ((slotsServed s).filter (aged Config.forcedAgeUs s))
/-- Tiers 2 and 3: group U, group M. -/
def tierGroup (g : Group) (s : State) : Option SlotIdx := bankFirst s ((slotsServed s).filter (pendingIn g s))
/-- Tier 4: routine refresh of a slot with no pending code. -/
def tier4 (s : State) : Option SlotIdx :=
  oldestOf s ((slotsServed s).filter fun i => aged Config.routineAgeUs s i && s.slots[i].pending.isNone)

/-- The slot the selection takes: the first non-empty tier (R112). -/
def chosenSlot (s : State) : Option SlotIdx :=
  tier1 s <|> tierGroup .u s <|> tierGroup .m s <|> tier4 s

/-- A slot whose write begins (R113): its pending code becomes the in-flight code with its group and marks, or its
last-written code is written again. -/
def Slot.begin (sl : Slot) : Slot :=
  match sl.pending, sl.lastWritten with
  | some p, _ => { sl with pending := none, inFlight := some ⟨p.code, some p.group, p.assign, p.measure⟩ }
  | none, some c => { sl with inFlight := some ⟨c, none, false, false⟩ }
  | none, none => sl

/-- The shift begins: bank and channel are selected, SHEN and DLD low (R114 step 2). -/
def selectPins (i : SlotIdx) (p : Pins) : Pins :=
  { p with bsel := BitVec.ofNat 3 (voiceOf i).val, csel := BitVec.ofNat 3 (channelOf i).val,
           dclk := false, ddat := false, dld := false, shen := false }

/-- The write of slot i begins (R113, R114): with a bank-change gap when its bank differs from the last bank. -/
def beginWrite (i : SlotIdx) (s : State) : State :=
  let port :=
    if s.sched.lastBank = some (voiceOf i) then Port.writing i .shift (s.now + Config.shiftUs)
    else Port.writing i .gap (s.now + Config.bankGapUs)
  let s := updSlot i Slot.begin s
  updPins (selectPins i) (updSched (fun c => { c with port := port, lastBank := some (voiceOf i) }) s)

/-- A selection, when the port is free and the scheduler is started and not stopped (R112). -/
def select (s : State) : State :=
  if selecting s && s.sched.port == .idle then
    match chosenSlot s with
    | some i => beginWrite i s
    | none => s
  else s

/-- At the end of an event: while the port is idle, a post that left a slot with a pending code brings a selection
(R112; log 18). -/
def selectIfPosted (s : State) : State :=
  if (slotsServed s).any fun i => s.slots[i].pending.isSome then select s else s

/-! ### Completion and abandonment (R115, R116) -/

/-- A slot whose write completes at `now`: the in-flight code becomes the last-written code and its marks are spent. -/
def Slot.complete (now : Nat) (sl : Slot) : Slot :=
  match sl.inFlight with
  | some f => { sl with lastWritten := some f.code, writtenAt := some now
                        inFlight := some { f with assign := false, measure := false } }
  | none => sl

/-- A slot whose write is abandoned (R116). -/
def Slot.abandon (sl : Slot) : Slot :=
  match sl.inFlight, sl.pending with
  | some f, some p =>
    { sl with inFlight := none
              pending := some ⟨p.code, p.group.join (f.group.getD .m), p.assign || f.assign, p.measure || f.measure⟩ }
  | some f, none =>
    { sl with inFlight := none
              pending := f.group.map fun g => ⟨f.code, g, f.assign, f.measure⟩ }
  | none, _ => sl

/-- A slot whose hold has ended. -/
def Slot.endHold (sl : Slot) : Slot := { sl with inFlight := none }

/-- The write on the port is abandoned and the port falls free; the count is not touched here (R116, R122). -/
def abandonWrite (s : State) : State :=
  match s.sched.port with
  | .writing i _ _ => updSched (fun c => { c with port := .idle }) (updSlot i Slot.abandon s)
  | .idle => s

/-- The DAC and demultiplexer pins at the levels of R29. -/
def cvPinsLow (p : Pins) : Pins :=
  { p with dclk := false, ddat := false, dld := false, shen := false, bsel := 0, csel := 0 }

/-- The scheduler stops in SILENT: the write on the port is cut off, the last bank becomes none (R122; log 15). -/
def stopScheduler (s : State) : State :=
  updPins cvPinsLow (updSched (fun c => { c with lastBank := none, stopped := true }) (abandonWrite s))

/-- A Restart clears every mark, and the timeout count, and starts a stopped scheduler again (R119). -/
def restartScheduler (s : State) : State :=
  updSched (fun c => { c with timeouts := 0, stopped := false })
    { s with slots := s.slots.map fun sl => sl.cancelAssign.cancelMeasure }

end Sys2Proof.Machine
end

