-- ==== Sys2Proof/Machine/Pitch.lean ====
section
/-!
DEFINITION. The Pitch Engine (05): the inputs of a voice (R88), composition (R89 to R91), glide (R92, R93), the codes of
the eight channels (R95, R98 to R100), and recomputation, assignment and full posts (R101 to R106).
-/
namespace Sys2Proof.Machine
open Sys2Proof

/-! ### Inputs and composition -/

/-- Live parameter p by its number (R87). -/
def param (s : State) (p : Nat) : Nat := liveAt s.live p

/-- g of GLIDE (R87). -/
def glideParam (s : State) : Nat := eighth (param s 9)

/-- The note of a voice's computation: of its identity, else its last note (R88). -/
def Voice.noteOf (v : Voice) : Option Note :=
  match v.ident with
  | some i => some i.note
  | none => v.lastNote

/-- The bend of a voice's computation: of its identity's source, 0 without one (R88). -/
def bendOf (s : State) (u : VoiceIdx) : Int :=
  match s.voices[u].ident with
  | some i => s.sources[i.source].bend
  | none => 0

/-- 256 × (n + T) (R89). -/
def targetOf (s : State) (n : Note) : Int := 256 * ((n.val : Int) + semitones (param s 15))

/-- Pg + B + SP, before the clamp (R91). -/
def rawP1 (s : State) (u : VoiceIdx) : Int :=
  s.glides[u].pg + bendTerm (bendOf s u) (bendRange (param s 10))
    + spreadOffset u.val s.start.voiceCount.val (spreadStep (param s 14))

/-- Pg + B + SP + 256 × I + D, before the clamp (R91). -/
def rawP2 (s : State) (u : VoiceIdx) : Int :=
  rawP1 s u + 256 * semitones (param s 11) + detune (param s 12)

/-- The code of channel c of voice u, LVL not forced (R95, R98 to R100). -/
def channelCode (s : State) (u : VoiceIdx) (c : Fin 8) : Code :=
  match c with
  | 0 => pitchCode s.calib[u].osc1 (clampPitch (rawP1 s u)).toNat
  | 1 => pitchCode s.calib[u].osc2 (clampPitch (rawP2 s u)).toNat
  | 2 => directCode (param s 5)
  | 3 => directCode (param s 6)
  | 4 => cutCode (param s 0) (eighth (param s 3)) (eighth (param s 4)) s.voices[u].velocity.val (clampPitch (rawP1 s u))
  | 5 => directCode (param s 1)
  | 6 => directCode (param s 2)
  | 7 => levelCode (param s 7) (eighth (param s 8)) s.voices[u].velocity.val

/-- The composition that channel c uses was held at an end of the pitch range (R91; for CUT log 23). -/
def clampedIn (s : State) (u : VoiceIdx) (c : Fin 8) : Bool :=
  match c with
  | 0 | 4 => outOfPitch (rawP1 s u)
  | 1 => outOfPitch (rawP2 s u)
  | _ => false

/-- The pitch-clamp flag set when one of the channels' compositions was clamped (R91). -/
def noteClamp (u : VoiceIdx) (cs : List (Fin 8)) (s : State) : State :=
  if cs.any (clampedIn s u) then updGlide u (fun g => { g with clamp := true }) s else s

/-! ### Recomputation (R101, R102) -/

/-- The group of a recomputed channel: P1 and P2 of a GATING voice in U, everything else in M (R102). -/
def groupOf (v : Voice) (c : Fin 8) : Group := if v.state = .gating ∧ c.val < 2 then .u else .m

/-- One recomputed channel posted, if it differs; a forced LVL is left alone (R100, R102). -/
def recomputeChannel (u : VoiceIdx) (s : State) (c : Fin 8) : State :=
  if c = chLvl ∧ levelForced s u then s
  else postIfDiffers (slotOf u c) (channelCode s u c) (groupOf s.voices[u] c) s

/-- The channels `cs` of voice u recomputed, in channel order, if its state is one that is recomputed (R101). -/
def recompute (u : VoiceIdx) (cs : List (Fin 8)) (s : State) : State :=
  if s.voices[u].state.computed then cs.foldl (recomputeChannel u) (noteClamp u cs s) else s

/-- P1, P2 and CUT (R101). -/
def pitchChannels : List (Fin 8) := [0, 1, 4]

/-- The voices whose identity has source `src`, recomputed for P1, P2 and CUT (R46, R56). -/
def recomputeSource (src : Station) (s : State) : State :=
  forVoices (fun u t =>
    match t.voices[u].ident with
    | some i => if i.source = src then recompute u pitchChannels t else t
    | none => t) s

/-- Channel c depends on parameter p (R101). -/
def dependsOn (p : Fin 16) (c : Fin 8) : Bool :=
  match p.val with
  | 0 | 3 | 4 => c == 4
  | 1 => c == 5
  | 2 => c == 6
  | 5 => c == 2
  | 6 => c == 3
  | 7 | 8 => c == 7
  | 9 | 13 => false
  | 10 | 14 | 15 => c == 0 || c == 1 || c == 4
  | 11 | 12 => c == 1
  | _ => false

/-- The channels of a voice that a change of the parameters `ps` recomputes: TRANSPOSE only when its note is present. -/
def changedChannels (ps : List (Fin 16)) (v : Voice) : List (Fin 8) :=
  (List.finRange 8).filter fun c => ps.any fun p => dependsOn p c && (p != 15 || v.noteOf.isSome)

/-- Pt set anew for a change of TRANSPOSE, and Pg following (R89). This is done at every counted change, also at one that leaves T
as it was while Pt stands elsewhere after a tune state or a Restart, where R145 and R155 post nothing: the model's choice of
log 33. -/
def retarget (u : VoiceIdx) (s : State) : State :=
  match s.voices[u].noteOf with
  | some n =>
    if s.voices[u].state.computed then
      let t := targetOf s n
      updGlide u (fun g =>
        if glideParam s = 0 then { g with pt := t, pg := t, timer := none }
        else if g.pg = t then { g with pt := t, timer := none }
        else { g with pt := t, timer := g.timer.or (some (s.now + Config.glideUs)) }) s
    else s
  | none => s

/-- One recomputation for a change of the parameters `ps`, with the live table as the change has left it (R101). -/
def paramsChanged (ps : List (Fin 16)) (s : State) : State :=
  let s := if ps.contains 15 then forVoices retarget s else s
  forVoices (fun u t => recompute u (changedChannels ps t.voices[u]) t) s

/-! ### Assignment, full posts, forced levels (R103 to R106) -/

/-- The code of a full post: LVL 0 where it is forced (R100, R104). -/
def fullCode (s : State) (u : VoiceIdx) (c : Fin 8) : Code :=
  if c = chLvl ∧ levelForced s u then 0 else channelCode s u c

/-- All eight channels of a voice posted in group U without the comparison of R102 (R104). -/
def fullPost (u : VoiceIdx) (s : State) : State :=
  (List.finRange 8).foldl (fun t c => post (slotOf u c) (fullCode t u c) .u false false t)
    (noteClamp u (List.finRange 8) s)

/-- A full post of every voice (R38, R40). -/
def fullPostAll (s : State) : State := forVoices fullPost s

/-- Pt and Pg at assignment of note n (R89, R92). -/
def assignGlide (u : VoiceIdx) (n : Note) (s : State) : State :=
  let t := targetOf s n
  updGlide u (fun g =>
    if glideParam s = 0 then { g with pg := t, pt := t, timer := none, clamp := false }
    else if g.pg = t then { g with pt := t, timer := none, clamp := false }
    else { g with pt := t, timer := some (s.now + Config.glideUs), clamp := false }) s

/-- The Pitch Engine's work at the assignment of note n to voice u, in the order of R103. -/
def assignPitch (u : VoiceIdx) (n : Note) (s : State) : State :=
  let s := noteClamp u [0, 1] (assignGlide u n s)
  let s := post (slotOf u chP1) (channelCode s u 0) .u true false s
  let s := post (slotOf u chP2) (channelCode s u 1) .u true false s
  let s := recompute u [2, 3, 4, 5, 6] s
  if levelForced s u then s else postIfDiffers (slotOf u chLvl) (channelCode s u 7) .u s

/-- LVL 0 posted in group U unless the slot already holds 0 (R105, R106). -/
def forceLevel (u : VoiceIdx) (s : State) : State := postIfDiffers (slotOf u chLvl) 0 .u s

/-- Pt set equal to Pg and the glide timer stopped (R86, R89). -/
def stopGlide (g : Glide) : Glide := { g with pt := g.pg, timer := none }

/-- Entry to TUNE-WAIT: the glide ends where it stands and LVL is forced (R105). -/
def enterTunePitch (u : VoiceIdx) (s : State) : State := forceLevel u (updGlide u stopGlide s)

/-- One glide step of voice u whose timer ends at d (R93; log 22). -/
def glideStep (u : VoiceIdx) (d : Nat) (s : State) : State :=
  recompute u pitchChannels (updGlide u (fun g =>
    let pg := glideMove (glideParam s) g.pg g.pt
    { g with pg := pg, timer := if pg = g.pt then none else some (d + Config.glideUs) }) s)

end Sys2Proof.Machine
end

