-- ==== Sys2Proof/Machine/Allocator.lean ====
section
/-!
DEFINITION. The Voice Allocator (03, 04): assignment (R47 to R49), Note-Off, Sustain, All-Notes-Off and release (R50 to R56),
the tune moves (R57, R58), the per-source table (R46), and the pending claim list (R63 to R78, R84).
-/
namespace Sys2Proof.Machine
open Sys2Proof

/-! ### Finding voices -/

/-- Voice u holds identity i. -/
def holds (i : Ident) (s : State) (u : VoiceIdx) : Bool := s.voices[u].ident == some i

/-- The voice that holds identity i (R47: at most one). -/
def holder (i : Ident) (s : State) : Option VoiceIdx := (List.finRange 6).find? (holds i s)

/-- Voice v holds an identity of source `src`. -/
def Voice.isOf (v : Voice) (src : Station) : Bool :=
  match v.ident with
  | some i => i.source == src
  | none => false

/-! ### Release and idleness (R54, R55) -/

/-- A voice that becomes IDLE at millisecond t: its identity is absent; last note and velocity are kept (R55, R58). -/
def Voice.toIdle (t : Nat) (v : Voice) : Voice :=
  { v with state := .idle, ident := none, idleSince := some t, releaseTimer := none }

/-- A voice that enters RELEASING at `now` with the release timer running for `hold` microseconds (R54). -/
def Voice.toReleasing (now hold : Nat) (v : Voice) : Voice :=
  { v with state := .releasing, gapTimer := none, minGateTimer := none, gapRun := false, offPending := false
           doneP1 := false, doneP2 := false, releaseSince := some (now / 1000), releaseTimer := some (now + hold) }

/-- Voice u enters RELEASING; with RELHOLD at 0 it goes on to IDLE at the same event (R54). -/
def enterReleasing (u : VoiceIdx) (s : State) : State :=
  let hold := releaseHoldMs (param s 13) * 1000
  let s := cancelAssign u (setGate u false s)
  updVoice u (fun v =>
    let r := v.toReleasing s.now hold
    if hold = 0 then r.toIdle s.ms else r) s

/-- SUSTAINED if the sustain of the voice's source is on, else RELEASING (R50, R51). -/
def applyNoteOff (u : VoiceIdx) (s : State) : State :=
  match s.voices[u].ident with
  | some i =>
    if s.sources[i.source].sustain then updVoice u (fun v => { v with state := .sustained }) s else enterReleasing u s
  | none => s

/-- Every voice of source `src` in one of the states `st` enters RELEASING. -/
def releaseVoices (src : Station) (st : VoiceState → Bool) (s : State) : State :=
  forVoices (fun u t => if t.voices[u].isOf src && st t.voices[u].state then enterReleasing u t else t) s

/-! ### Assignment (R47 to R49) -/

/-- The states in which a won claim is carried out (R47). -/
def VoiceState.assignable : VoiceState → Bool
  | .idle | .gating | .held | .sustained | .releasing => true
  | .tuneWait | .tuning | .retired => false

/-- The voice record at an assignment (R47, steps 2 to 4). -/
def Voice.assigned (i : Ident) (vel : Velocity) (now : Nat) (v : Voice) : Voice :=
  { v with state := .gating, ident := some i, velocity := vel, lastNote := some i.note, startTime := some (now / 1000)
           offPending := false, doneP1 := false, doneP2 := false, gapRun := false
           gapTimer := some (now + Config.gapTimerUs), minGateTimer := none, releaseTimer := none }

/-- The claim-won path (R47). -/
def assign (u : VoiceIdx) (i : Ident) (vel : Velocity) (s : State) : State :=
  assignPitch u i.note (updVoice u (Voice.assigned i vel s.now) (cancelAssign u (setGate u false s)))

/-- The claim-won path where it is carried out: RUNNING and NORMAL, on a voice that can play (R47, R71). -/
def claimWon (u : VoiceIdx) (i : Ident) (vel : Velocity) (s : State) : State :=
  if playing s && s.voices[u].state.assignable then assign u i vel s else s

/-- The conditions of R49 for the end of GATING. -/
def gatingEnds (v : Voice) : Bool := v.state == .gating && v.gapRun && v.doneP1 && v.doneP2

/-- The voice record at the end of GATING (R49). -/
def Voice.gated (now : Nat) (v : Voice) : Voice :=
  { v with state := .held, minGateTimer := if v.offPending then some (now + Config.minGateUs) else v.minGateTimer }

/-- GATING ends when its conditions hold and the station is RUNNING and NORMAL: the gate rises (R49; log 28). The gates of
voices from V on stay low (R59). -/
def endGating (u : VoiceIdx) (s : State) : State :=
  if playing s && served s u && gatingEnds s.voices[u] then setGate u true (updVoice u (Voice.gated s.now) s) else s

/-- A marked write of P1 or P2 has completed (R48, R115). -/
def assignWritten (u : VoiceIdx) (c : Fin 8) (s : State) : State :=
  endGating u (updVoice u (fun v => if c = chP1 then { v with doneP1 := true } else { v with doneP2 := true }) s)

/-! ### The pending claim list (R63) -/

/-- The entry for an identity. -/
def claimOf (i : Ident) (s : State) : Option Claim := s.claims.find? fun c => c.ident == i

/-- Selected entries are removed and the nominated flags of their voices cleared; the timers go with the entries (R63). -/
def dropClaims (sel : Claim → Bool) (s : State) : State :=
  { s with
    claims := s.claims.filter fun c => !sel c
    voices := Vector.ofFn fun u =>
      if s.claims.any fun c => sel c && c.voice == u then { s.voices[u] with nominated := false } else s.voices[u] }

/-- Selected entries are removed after the withdrawal of their Claim frames is asked (R22, R70, R75, R77, R78, R84). -/
def withdrawClaims (sel : Claim → Bool) (s : State) : State :=
  dropClaims sel (withdraw (fun f => s.claims.any fun c => sel c && isClaimFor c.ident f) s)

/-- The entry for identity i. -/
def isFor (i : Ident) (c : Claim) : Bool := c.ident == i
/-- An entry for a note of source `src`. -/
def isFrom (src : Station) (c : Claim) : Bool := c.ident.source == src

/-- The pending claim list is emptied without counting (R84). -/
def emptyClaims (s : State) : State := withdrawClaims (fun _ => true) s

/-! ### Opening a claim (R64 to R68) -/

/-- A voice state that the steal mode allows (R65). -/
def StealMode.allows : StealMode → VoiceState → Bool
  | .oldest, .idle | .oldest, .releasing | .oldest, .sustained | .oldest, .held | .oldest, .gating => true
  | .none, .idle | .none, .releasing => true
  | _, _ => false

/-- A candidate (R65). -/
def isCandidate (s : State) (u : VoiceIdx) : Bool :=
  served s u && !s.voices[u].nominated && s.start.steal.allows s.voices[u].state

/-- The milliseconds since a stamp; 0 for an absent one, which no run meets (R43; log 24). -/
def ageOf (ms : Nat) (stamp : Option Nat) : Nat := ms - stamp.getD ms

/-- The rank of a candidate that does not hold the note (R67). -/
def rankOfVoice (ms : Nat) (n : Note) (v : Voice) : Nat :=
  match v.state with
  | .idle => if v.lastNote = some n then 0x10 else 0x20 - min (ageOf ms v.idleSince / 32) 15
  | .releasing => 0x40 - min (ageOf ms v.releaseSince / 32) 31
  | .sustained => 0x80 - min (ageOf ms v.startTime / 32) 63
  | _ => 0xC0 - min (ageOf ms v.startTime / 16) 63

/-- The candidate with the lowest rank, equal ranks by lowest index (R68). -/
def bestCandidate (n : Note) (s : State) : Option (VoiceIdx × Nat) :=
  (List.finRange 6).foldl (fun best u =>
    if isCandidate s u then
      let r := rankOfVoice s.ms n s.voices[u]
      match best with
      | some (_, b) => if r < b then some (u, r) else best
      | none => some (u, r)
    else best) none

/-- A claim opened for voice u at a rank (R68). -/
def openClaim (u : VoiceIdx) (rank : Nat) (i : Ident) (vel : Velocity) (s : State) : State :=
  let s := updVoice u (fun v => { v with nominated := true }) s
  handRanked (.claim i.source i.note u) rank
    { s with claims := s.claims ++ [⟨i, vel, u, rank, s.ms, s.now + Config.claimTimeoutUs, false⟩] }

/-- The decision on a Note-On, in the order of R64. -/
def decideClaim (i : Ident) (vel : Velocity) (s : State) : State :=
  if s.start.voiceCount = 0 then s
  else if !playing s then s
  else if s.claims.any (isFor i) then s
  else if Config.claimCapacity ≤ s.claims.length then count Counters.addClaimOverflow s
  else match holder i s with
    | some u => if s.voices[u].nominated then s else openClaim u 0x00 i vel s
    | none =>
      match bestCandidate i.note s with
      | some (u, r) => openClaim u r i vel s
      | none => s

/-! ### Settling a claim (R69, R72, R74) -/

/-- The station's own Claim taken (R69, R71). -/
def winClaim (i : Ident) (u : VoiceIdx) (s : State) : State :=
  match s.claims.find? fun c => c.ident == i && c.voice == u with
  | some c => claimWon u i c.velocity (dropClaims (isFor i) s)
  | none => s

/-- An entry whose timeout has come with its frame off the line, or whose expired frame has left the line untaken: removed
and counted (R72). -/
def giveUpClaim (i : Ident) (s : State) : State := count Counters.addClaimTimeout (withdrawClaims (isFor i) s)

/-- The timeout of the entry for identity i (R72). -/
def claimExpires (i : Ident) (s : State) : State :=
  if claimOnLine i s then
    { withdraw (isClaimFor i) s with
      claims := s.claims.map fun c => if isFor i c then { c with expired := true } else c }
  else giveUpClaim i s

/-- The Claim frame for identity i, withdrawn while it was on the line, has left it untaken: an entry whose expired mark is
set is removed and counted (R72). -/
def endExpired (i : Ident) (s : State) : State :=
  if s.claims.any fun c => isFor i c && c.expired then giveUpClaim i s else s

/-! ### Note frames (R46, R50 to R53, R56) -/

/-- A Note-Off on the voice that holds its identity (R50). -/
def noteOffVoice (i : Ident) (s : State) : State :=
  match holder i s with
  | none => s
  | some u =>
    match s.voices[u].state with
    | .gating => updVoice u (fun v => { v with offPending := true }) s
    | .held => if s.voices[u].minGateTimer.isSome then s else applyNoteOff u s
    | _ => s

/-- A Bend value stored, clamped to −8192…8191, and its voices recomputed if it changed (R46). -/
def setBend (src : Station) (value : Int) (s : State) : State :=
  let b := clampInt (-8192) 8191 value
  if s.sources[src].bend = b then s else recomputeSource src (updSource src (fun e => { e with bend := b }) s)

/-- A Sustain stored; sustain off releases the SUSTAINED voices of its source (R46, R52). -/
def setSustain (src : Station) (on : Bool) (s : State) : State :=
  let s := updSource src (fun e => { e with sustain := on }) s
  if on then s else releaseVoices src (· == .sustained) s

/-- A Hello's effect on voices and sources (R56). -/
def helloVoices (src : Station) (s : State) : State :=
  setBend src 0 (updSource src (fun e => { e with sustain := false }) (releaseVoices src VoiceState.playsNote s))

/-! ### Tune moves (R57, R58) -/

/-- The Voice Allocator carries out a request to TUNE-WAIT (R57). -/
def mayTuneWait (s : State) (u : VoiceIdx) : Bool :=
  playing s && served s u && (s.voices[u].state == .idle || s.voices[u].state == .retired) && !s.voices[u].nominated

/-- The move to TUNE-WAIT (R57, R105). -/
def toTuneWait (u : VoiceIdx) (s : State) : State :=
  enterTunePitch u (updVoice u (fun v =>
    { v with state := .tuneWait, ident := none, gapTimer := none, minGateTimer := none, releaseTimer := none }) s)

/-- A voice in TUNE-WAIT or TUNING leaves it for RETIRED or IDLE by its failure count; IDLE brings a full post (R58, R104,
R174). -/
def leaveTuneState (u : VoiceIdx) (s : State) : State :=
  if s.voices[u].state == .tuneWait || s.voices[u].state == .tuning then
    if s.calib[u].failures = 2 then updVoice u (fun v => { v with state := .retired }) s
    else fullPost u (updVoice u (Voice.toIdle s.ms) s)
  else s

/-! ### LOADING and Restart (R38, R40, R45) -/

/-- A voice at the end of LOADING (R38 step 1). -/
def Voice.afterLoading (ms : Nat) (failures : Fin 3) (v : Voice) : Voice :=
  { v with state := if failures = 2 then .retired else .idle, idleSince := some ms }

/-- A voice at a Restart (R40, R45): last note and velocity are kept. -/
def Voice.restarted (ms : Nat) (failures : Fin 3) (v : Voice) : Voice :=
  { Voice.reset with
    state := if failures = 2 then .retired else .idle
    velocity := v.velocity
    lastNote := v.lastNote
    idleSince := if failures = 2 then v.idleSince else some ms }

/-- The voices at the end of LOADING. -/
def loadVoices (s : State) : State :=
  { s with voices := Vector.ofFn fun u => s.voices[u].afterLoading s.ms s.calib[u].failures }

/-- The voice table, gates, glides, claims and per-source table at a Restart (R40, R45, R46, R86). -/
def restartVoices (s : State) : State :=
  { s with
    voices := Vector.ofFn fun u => s.voices[u].restarted s.ms s.calib[u].failures
    gates := Vector.replicate 6 false
    glides := s.glides.map stopGlide
    claims := []
    sources := Vector.replicate 8 Source.reset }

end Sys2Proof.Machine
end

