-- ==== Sys2Proof/Machine/Report.lean ====
section
/-!
DEFINITION. The Report Unit (11): every Report the station builds, from the state at the event that requests it (R196), and
the station's Hello (R31).
-/
namespace Sys2Proof.Machine
open Sys2Proof

/-- The flags byte of the Hello and of an IDENTITY reply: bit 0 scan flag, bit 1 strap-clamp flag (R31, R200). -/
def flagsByte (st : StartUp) : Byte := byteOf ((if st.scan then 1 else 0) + (if st.strapClamp then 2 else 0))

/-- The station's Hello (R31). -/
def helloFrame (s : State) : Frame :=
  .hello Config.partCode Config.revision (byteOf s.start.voiceCount.val) (flagsByte s.start)

/-- Report IDENTITY (R198). -/
def identityReport (subject : Byte) (s : State) : Frame :=
  .report .identity subject
    [byteOf (stationId s).val, Config.partCode, Config.revision, byteOf s.start.voiceCount.val, flagsByte s.start,
     s.start.phase.code, s.start.fault.code]

/-- Report HEALTH of voice u (R198). -/
def healthReport (subject : Byte) (u : VoiceIdx) (s : State) : Frame :=
  let c := s.calib[u]
  .report .health subject
    ([s.voices[u].state.code, flagByte c.calibrated, byteOf c.failures.val] ++ twoBytes c.drift
      ++ [c.outcome.code, flagByte s.glides[u].clamp])

/-- Report COUNTERS: the six counters in the order of R25. -/
def countersReport (subject : Byte) (s : State) : Frame :=
  .report .counters subject (s.link.counters.toList.flatMap twoBytes)

/-- The two Reports of a CALIB reply: C(0) to C(5), then C(6) to C(10) (R196, R199). -/
def calibReports (subject : Byte) (t : CalTable) : List Frame :=
  [.report .calibA subject ((t.toList.take 6).flatMap twoBytes), .report .calibB subject ((t.toList.drop 6).flatMap twoBytes)]

/-- Report FAULT: the code and the detail (R193, R195). -/
def faultReport (code : FaultCode) (detail : Byte) : Frame := .report .fault code.code [detail]

/-- The memory codes of R197. -/
inductive MemCode where
  | emptySlot | badSlot | recallDropped | storeDropped | noMemory | memoryFault | calInvalid
  deriving DecidableEq, Repr

/-- The number of a memory code (R197). -/
def MemCode.code : MemCode → Byte
  | .emptySlot => 0 | .badSlot => 1 | .recallDropped => 2 | .storeDropped => 3 | .noMemory => 4 | .memoryFault => 5
  | .calInvalid => 6

/-- A Report MEMORY handed over, naming a page (R197). -/
def memoryReport (code : MemCode) (page : Nat) (s : State) : State := hand (.report .memory code.code [byteOf page]) s

/-- The voice and the oscillator that a CALIB subject 16 × o + u names (R198). -/
def calibSubject (subject : Byte) : Option (Osc × VoiceIdx) :=
  match below 6 (byteOf (subject.toNat % 16)), subject.toNat / 16 with
  | some u, 1 => some (.osc1, u)
  | some u, 2 => some (.osc2, u)
  | _, _ => none

/-- The Reports that answer a Query; none for a subject the station does not have (R198). -/
def replies (item : QueryItem) (subject : Byte) (s : State) : List Frame :=
  match item with
  | .identity => [identityReport subject s]
  | .counters => [countersReport subject s]
  | .health =>
    match below 6 subject with
    | some u => if served s u then [healthReport subject u s] else []
    | none => []
  | .calib =>
    match calibSubject subject with
    | some (o, u) =>
      if served s u then calibReports subject (match o with | .osc1 => s.calib[u].osc1 | .osc2 => s.calib[u].osc2) else []
    | none => []

/-- Frames handed over in order. -/
def handAll (fs : List Frame) (s : State) : State := fs.foldl (fun t f => hand f t) s

end Sys2Proof.Machine
end

