-- ==== Sys2Proof/Machine/MemoryCtl.lean ====
section
/-!
DEFINITION. The Memory Controller's queue and port (09): the decision on a request (R161), the start of service (R162), the
removal of a finished entry, and what a Restart leaves (R168). What the results do to other blocks stands in Join.lean.
-/
namespace Sys2Proof.Machine
open Sys2Proof

/-- The port carries the operation of the queue's first entry (R160, R162). -/
def MemPort.serving : MemPort → Bool
  | .reading _ | .writing _ | .polling _ _ => true
  | .idle | .probing _ => false

/-- The entries in flight and the unstarted entries (R160). -/
def MemCtl.inFlight (m : MemCtl) : List MemEntry := if m.port.serving then m.queue.take 1 else []
def MemCtl.unstarted (m : MemCtl) : List MemEntry := if m.port.serving then m.queue.drop 1 else m.queue

/-- An unstarted RECALL-READ is in the queue. -/
def MemCtl.waitingRecall (m : MemCtl) : Option MemEntry := m.unstarted.find? fun e => e.req.isRecall

/-- What the Memory Controller decides on a request (R161). -/
inductive MemAnswer where
  | refused (code : MemCode)
  | replaces (old : MemReq)
  | joins
  | dropped (code : MemCode)
  | waits
  deriving DecidableEq, Repr

/-- R161, in its order. -/
def memAnswer (r : MemReq) (m : MemCtl) : MemAnswer :=
  match m.status with
  | .absent => .refused .noMemory
  | .failed => .refused .memoryFault
  | .unknown | .present =>
    match r.isRecall, m.waitingRecall with
    | true, some e => .replaces e.req
    | _, _ =>
      if m.queue.length < Config.memCapacity then .joins
      else match r with
        | .recallRead _ _ => .dropped .recallDropped
        | .storeWrite _ _ => .dropped .storeDropped
        | .calWrite _ _ _ _ _ _ | .calRead _ => .waits

/-- The oldest unstarted entry's operation begins when the port is idle (R162); MCS falls. -/
def beginService (s : State) : State :=
  match s.mem.port, s.mem.queue with
  | .idle, e :: _ =>
    let port := if e.req.isWrite then MemPort.writing (s.now + Config.pageWriteUs) else .reading (s.now + Config.pageReadUs)
    updPins (fun p => { p with mcs := false }) (updMem (fun m => { m with port := port }) s)
  | _, _ => s

/-- The queue with a request at its tail. -/
def joinQueue (r : MemReq) (s : State) : State :=
  updMem (fun m => { m with queue := m.queue ++ [⟨r, false⟩] }) s

/-- The unstarted RECALL-READ removed from the queue (R161 rule 2). -/
def dropRecall (m : MemCtl) : MemCtl :=
  { m with queue := m.inFlight ++ m.unstarted.filter fun e => !e.req.isRecall }

/-- A request handed to the Memory Controller: its effect on the queue, with the Report it asks for (R161). -/
def memRequest (r : MemReq) (s : State) : State :=
  match memAnswer r s.mem with
  | .refused code => memoryReport code r.page s
  | .replaces old => beginService (joinQueue r (memoryReport .recallDropped old.page (updMem dropRecall s)))
  | .joins => beginService (joinQueue r s)
  | .dropped code => memoryReport code r.page s
  | .waits => s

/-- The entry whose operation has ended leaves the queue; the port is idle and MCS high (R162). -/
def finishOperation (s : State) : State :=
  updPins (fun p => { p with mcs := true })
    (updMem (fun m => { m with port := .idle, queue := m.queue.drop 1 }) s)

/-- What a Restart leaves of the queue: the entry in flight, its result to be discarded (R168). -/
def restartMemory (s : State) : State :=
  updMem (fun m => { m with queue := m.inFlight.map fun e => { e with discard := true } }) s

/-- The unstarted entries dropped without Reports (R168; log 13). -/
def dropUnstarted (s : State) : State := updMem (fun m => { m with queue := m.inFlight }) s

/-- The status byte's busy indication (R158). -/
def busy (status : Byte) : Bool := status.getLsbD 0

end Sys2Proof.Machine
end

