-- ==== Sys2Proof/Machine/Tune.lean ====
section
/-!
DEFINITION. The Tune Unit (10): the sequencer (R173, R174), the offline set (R175 to R179), the passes of a measurement (R181
to R185), the ends of a tune (R186 to R188), and its stop or abort (R189 to R191).
-/
namespace Sys2Proof.Machine
open Sys2Proof

/-- The sequencer moved to a state. -/
def setSeq (q : SeqState) (s : State) : State := updTune (fun t => { t with seq := q }) s

/-- The sequencer without a tune voice and a result, in state q. -/
def clearTuneVoice (q : SeqState) (s : State) : State :=
  updTune (fun t => { t with seq := q, voice := none, result := none }) s

/-! ### The sequencer (R173, R174) -/

/-- The offline set holds fewer than L pairs (R24, R173). -/
def belowLimit (s : State) : Bool := s.tune.offline.length < s.start.limit

/-- A voice qualifies when it is IDLE or RETIRED and not nominated (R173). -/
def qualifies (s : State) (u : VoiceIdx) : Bool :=
  (s.voices[u].state == .idle || s.voices[u].state == .retired) && !s.voices[u].nominated

/-- Voice w goes to TUNE-WAIT and its Tune-Begin is handed over (R174). -/
def beginWait (w : VoiceIdx) (s : State) : State :=
  hand (.tuneBegin w false) (updTune (fun t => { t with seq := .waitSlot, voice := some w }) (toTuneWait w s))

/-- The sequencer's look at the tune list in SELECT (R173, R174). -/
def seqLook (s : State) : State :=
  if s.tune.seq = .select then
    if s.tune.list.isEmpty then setSeq .idle s
    else match s.tune.list.find? (qualifies s) with
      | none => s
      | some w =>
        if belowLimit s then (if mayTuneWait s w then beginWait w s else s)
        else updTune (fun t => { t with seq := .waitSlot, voice := none }) s
  else s

/-- The tune voice waiting for its Tune-Begin, w, gives up its wait: its prior state, no tune voice, sequencer state q
(R174, R189). -/
def leaveWait (w : VoiceIdx) (q : SeqState) (s : State) : State := clearTuneVoice q (leaveTuneState w s)

/-- The sequencer waits in WAIT-SLOT with voice w. -/
def waitsFor (w : VoiceIdx) (s : State) : Bool := s.tune.seq == .waitSlot && s.tune.voice == some w

/-- A Tune-Request names voices (R172). -/
def requestTunes (mask : Byte) (s : State) : State :=
  let wanted := (List.finRange 6).filter fun u =>
    s.tune.list.contains u || (mask.getLsbD u.val && served s u && s.voices[u].state != .tuning)
  let q := if s.tune.seq = .idle ∧ wanted ≠ s.tune.list then .select else s.tune.seq
  updTune (fun t => { t with list := wanted, seq := q }) s

/-! ### The offline set (R175, R177, R178) -/

/-- A pair added, if it is absent (R175). -/
def addPair (t : Station) (w : VoiceIdx) (s : State) : State :=
  if s.tune.offline.contains (t, w) then s else updTune (fun x => { x with offline := x.offline ++ [(t, w)] }) s

/-- Selected pairs removed; a removal wakes a sequencer in WAIT-SLOT without a voice (R177, R178). -/
def removePairs (sel : Station × VoiceIdx → Bool) (s : State) : State :=
  if s.tune.offline.any sel then
    updTune (fun x => { x with
      offline := x.offline.filter fun p => !sel p
      seq := if x.seq = .waitSlot ∧ x.voice = none then .select else x.seq }) s
  else s

/-- The tune voice, if it is TUNING. -/
def tuningVoice (s : State) : Option VoiceIdx :=
  match s.tune.voice with
  | some u => if s.voices[u].state = .tuning then some u else none
  | none => none

/-- A refresh Tune-Begin handed over for the voice in TUNING, unless one is queued (R178 step 2). -/
def handRefresh (s : State) : State :=
  match tuningVoice s with
  | some u =>
    if s.tune.refreshMark then s
    else hand (.tuneBegin u true) (updTune (fun t => { t with refreshMark := true }) s)
  | none => s

/-- The Tune Unit's part of a Hello from another station (R178). -/
def helloTune (src : Station) (s : State) : State :=
  let s := removePairs (fun p => p.1 == src) s
  if (tuningVoice s).isSome then
    handRefresh (updTune (fun t => { t with refreshTimer := some (s.now + Config.refreshUs) }) s)
  else s

/-- The voice leaves TUNING: its queued refresh is withdrawn, mark and timer cleared (R179). -/
def endRefresh (u : VoiceIdx) (s : State) : State :=
  updTune (fun t => { t with refreshMark := false, refreshTimer := none }) (withdraw (isTuneBegin u true) s)

/-! ### Passes (R181) -/

/-- The working table of an oscillator. -/
def TuneWork.tab (w : TuneWork) (o : Osc) : CalTable := match o with | .osc1 => w.tab1 | .osc2 => w.tab2
/-- The working table of an oscillator replaced. -/
def TuneWork.setTab (w : TuneWork) (o : Osc) (t : CalTable) : TuneWork :=
  match o with | .osc1 => { w with tab1 := t } | .osc2 => { w with tab2 := t }
/-- The P channel of an oscillator. -/
def Osc.channel : Osc → Fin 8
  | .osc1 => chP1 | .osc2 => chP2

/-- Step 1 of a pass: the working code posted with the measure mark (R181). -/
def beginPass (u : VoiceIdx) (w : TuneWork) (s : State) : State :=
  post (slotOf u w.osc.channel) (tabAt (w.tab w.osc) w.k) .u false true
    (updTune (fun t => { t with work := some w, seq := .measure }) s)

/-- TSEL0–3 at 2u + o − 1 (R171). -/
def selectOsc (u : VoiceIdx) (o : Osc) (s : State) : State :=
  updPins (fun p => { p with tsel := BitVec.ofNat 4 (2 * u.val + o.num - 1) }) s

/-- The own Tune-Begin for the waiting voice is taken: the measurement starts (R176). -/
def beginMeasure (w : VoiceIdx) (s : State) : State :=
  let work : TuneWork := ⟨s.calib[w].osc1, s.calib[w].osc2, .osc1, 1, 1⟩
  beginPass w work (selectOsc w .osc1
    (updTune (fun t => { t with list := t.list.filter fun u => u != w })
      (updVoice w (fun v => { v with state := .tuning }) s)))

/-- The own Tune-Begin for a voice that no longer waits is taken: every station is told to drop the pair (R176). -/
def endStray (w : VoiceIdx) (s : State) : State :=
  hand (.tuneEnd w .aborted 0)
    (updTune (fun t => { t with seq := .endWait, voice := some w, result := some (.aborted, 0) }) s)

/-- The own non-refresh Tune-Begin for w is taken (R176). -/
def ownTuneBegin (w : VoiceIdx) (s : State) : State :=
  if waitsFor w s && s.voices[w].state == .tuneWait then beginMeasure w s else endStray w s

/-- A marked breakpoint code of voice u has been written: the settle timer starts (R181 step 3). -/
def measureWritten (u : VoiceIdx) (s : State) : State :=
  if s.tune.seq = .measure ∧ s.tune.voice = some u then
    updTune (fun t => { t with settleTimer := some (s.now + Config.settleUs) }) s
  else s

/-! ### Ends of a tune (R184 to R188) -/

/-- The measurement's own items cleared: settle timer, counter, measure marks, TSEL, working tables (R186, R187, R189). -/
def clearMeasure (u : VoiceIdx) (s : State) : State :=
  updPins (fun p => { p with tsel := 0 })
    (updTune (fun t => { t with settleTimer := none, counter := .idle, work := none }) (cancelMeasure u s))

/-- The CAL-WRITE of voice u as its calibration state stands (R188). -/
def calRequest (u : VoiceIdx) (s : State) : MemReq :=
  let c := s.calib[u]
  .calWrite u c.osc1 c.osc2 c.failures c.drift c.outcome

/-- The Tune-End of the tune whose CAL-WRITE has been decided; in SILENT the sequencer does not wait for one (R188, R190). -/
def handTuneEnd (u : VoiceIdx) (s : State) : State :=
  let s := updTune (fun t => { t with held := none, seq := .endWait }) s
  if s.start.fault = .silent then clearTuneVoice .idle s
  else match s.tune.result with
    | some (o, d) => hand (.tuneEnd u o d) s
    | none => s

/-- The CAL-WRITE handed to the Memory Controller: told to wait, it is held in COMMIT; else the Tune-End follows (R188). -/
def handCal (u : VoiceIdx) (r : MemReq) (s : State) : State :=
  match memAnswer r s.mem with
  | .waits => updTune (fun t => { t with held := some r, seq := .commit }) s
  | _ => handTuneEnd u (memRequest r s)

/-- A room notice of the Memory Controller, for the Tune Unit (R162, R188). -/
def tuneRoom (s : State) : State :=
  match s.tune.seq, s.tune.held, s.tune.voice with
  | .commit, some r, some u => handCal u r s
  | _, _, _ => s

/-- A tune that has reached a result: the voice leaves TUNING and the CAL-WRITE is handed over (R186, R187). -/
def finishTune (u : VoiceIdx) (o : TuneOutcome) (d : Byte) (s : State) : State :=
  let s := endRefresh u (leaveTuneState u s)
  handCal u (calRequest u s) (updTune (fun t => { t with result := some (o, d) }) s)

/-- The calibration state after a failed tune (R187). -/
def Calib.failed (o : TuneOutcome) (c : Calib) : Calib :=
  { c with failures := if c.failures = 0 then 1 else 2, outcome := o }

/-- A tune fails (R184, R185, R187). -/
def failTune (u : VoiceIdx) (o : TuneOutcome) (d : Byte) (s : State) : State :=
  finishTune u o d (updCalib u (Calib.failed o) (clearMeasure u s))

/-- OK, or OK-DRIFT when the drift exceeds 1440 (R185). -/
def outcomeOfDrift (d : Nat) : TuneOutcome := if d ≤ Config.driftLimit then .ok else .okDrift

/-- The drift of two new tables against the committed ones (R185). -/
def driftOf (t1 t2 : CalTable) (c : Calib) : Nat := max (tableDrift t1 c.osc1) (tableDrift t2 c.osc2)

/-- A tune succeeds with completed tables (R185, R186). -/
def succeedTune (u : VoiceIdx) (t1 t2 : CalTable) (s : State) : State :=
  let d := driftOf t1 t2 s.calib[u]
  finishTune u (outcomeOfDrift d) 0
    (updCalib u (fun _ => ⟨t1, t2, true, 0, BitVec.ofNat 16 d, outcomeOfDrift d⟩) (clearMeasure u s))

/-- Breakpoint 9 of oscillator 2 is accepted (R185). -/
def completeTune (u : VoiceIdx) (w : TuneWork) (s : State) : State :=
  let t1 := tuneComplete w.tab1
  let t2 := tuneComplete w.tab2
  match firstDescent t1, firstDescent t2 with
  | some k, _ => failTune u .nonMonotonic (tuneDetail .osc1 k) s
  | none, some k => failTune u .nonMonotonic (tuneDetail .osc2 k) s
  | none, none => succeedTune u t1 t2 s

/-- A breakpoint is accepted: the next one, the second oscillator, or the end (R184). -/
def acceptPass (u : VoiceIdx) (w : TuneWork) (s : State) : State :=
  if w.k < 9 then beginPass u { w with k := w.k + 1, pass := 1 } s
  else match w.osc with
    | .osc1 => beginPass u { w with osc := .osc2, k := 1, pass := 1 } (selectOsc u .osc2 s)
    | .osc2 => completeTune u w s

/-- The error of a count in range: accepted, corrected for the next pass, or failed after pass 4 (R182 to R184). -/
def judgePass (u : VoiceIdx) (w : TuneWork) (e : Int) (s : State) : State :=
  if e.natAbs ≤ 2 then acceptPass u w s
  else if 4 ≤ w.pass then failTune u .noConverge (tuneDetail w.osc w.k) s
  else beginPass u { (w.setTab w.osc (tuneCorrect (w.tab w.osc) w.k e)) with pass := w.pass + 1 } s

/-- The counter returns to idle at an end of a count (R171). -/
def stopCounter (s : State) : State := updTune (fun t => { t with counter := .idle }) s

/-- A count ends without a result in range: the tune fails at the breakpoint being measured (R171, R184). -/
def failCount (o : TuneOutcome) (s : State) : State :=
  match s.tune.voice, s.tune.work with
  | some u, some w => failTune u o (tuneDetail w.osc w.k) (stopCounter s)
  | _, _ => stopCounter s

/-- A count ends at its Nth edge with T (R171, R182). -/
def countResult (t : Nat) (s : State) : State :=
  if t < Config.countMin ∨ Config.countMax < t then failCount .outOfRange s
  else match s.tune.voice, s.tune.work with
    | some u, some w => judgePass u w (tuneError t) (stopCounter s)
    | _, _ => stopCounter s

/-! ### Stop, abort, Restart (R189 to R191) -/

/-- The tune stopped in MEASURE (R189). -/
def stopMeasure (u : VoiceIdx) (w : TuneWork) (s : State) : State :=
  let d := tuneDetail w.osc w.k
  let s := endRefresh u (leaveTuneState u (clearMeasure u s))
  hand (.tuneEnd u .aborted d) (updTune (fun t => { t with seq := .endWait, result := some (.aborted, d) }) s)

/-- The effect of a Tune-Stop, by sequencer state (R189). -/
def stopTune (s : State) : State :=
  let s := updTune (fun t => { t with list := [] }) s
  match s.tune.seq, s.tune.voice, s.tune.work with
  | .waitSlot, some w, _ => leaveWait w .idle (withdraw (isTuneBegin w false) s)
  | .select, _, _ | .waitSlot, none, _ => clearTuneVoice .idle s
  | .measure, some u, some w => stopMeasure u w s
  | _, _, _ => s

/-- The tune in progress aborted at entry to MUTED or SILENT (R190); the fault state has been set. -/
def abortTune (s : State) : State :=
  let s := stopTune s
  if s.start.fault = .silent ∧ s.tune.seq = .endWait then clearTuneVoice .idle s else s

/-- The Tune Unit at a Restart (R40, R170, R191); the measure marks are cleared with the scheduler's (R119). -/
def restartTune (s : State) : State :=
  updPins (fun p => { p with tsel := 0 }) (updTune (fun _ => Tune.reset) s)

end Sys2Proof.Machine
end

