-- ==== Sys2Proof/Machine/Panel.lean ====
section
/-!
DEFINITION. The Panel Scanner (07): its start and stop (R124), knob sampling (R125 to R128), pickup and uncatching (R129 to
R136), and the switch matrix with its debouncing and masking (R137 to R141).
-/
namespace Sys2Proof.Machine
open Sys2Proof

/-! ### Start and stop (R124; log 32) -/

/-- The levels of SD0–7 with row r low (R137). -/
def rowLow (r : Fin 8) : BitVec 8 := ~~~ (BitVec.ofNat 8 (2 ^ r.val))

/-- The scanner starts, with its first round and its first pass (R124). -/
def startScanner (s : State) : State :=
  if s.start.scan then
    updPins (fun p => { p with sd := rowLow 0, ksel := 0 })
      (updPanel (fun _ => { Panel.reset with
        running := true, sample := some 0, sampleEnd := s.now + Config.sampleUs
        nextRound := s.now + Config.roundUs, rowEnd := s.now + Config.rowUs }) s)
  else s

/-- The scanner stops: records to their reset values, SD high, KSEL 0 (R124). -/
def stopScanner (s : State) : State :=
  updPins (fun p => { p with sd := 0xFF, ksel := 0 }) (updPanel (fun _ => Panel.reset) s)

/-! ### Knob records (R126) -/

/-- The average of a full ring (R126). -/
def ringAverage (ring : List (BitVec 12)) : Nat := (ring.map BitVec.toNat).sum / 4

/-- The position of a reported reading (R126). -/
def positionOf (r : Nat) : Nat := r / 4

/-- The global number of local knob i (R125). -/
def knobNumber (s : State) (i : Fin 32) : Nat := 32 * (stationId s).val + i.val

/-- The parameter that local knob i controls: knobs 0 to 15 of station 0 (R129). -/
def paramOfKnob (s : State) (i : Fin 32) : Option (Fin 16) :=
  if h : knobNumber s i < 16 then some ⟨knobNumber s i, h⟩ else none

/-- The local knob of a parameter (R129). -/
def knobOfParam (p : Fin 16) : Fin 32 := ⟨p.val, by omega⟩

/-- The base value of parameter knob p: its queued value, else the live value (R129). -/
def baseValue (p : Fin 16) (s : State) : Nat :=
  match queuedKnob (byteOf p.val) s with
  | some v => v.toNat
  | none => s.live[p].value

/-- A Knob frame handed over with a position or value (R130 to R133). -/
def handKnob (i : Fin 32) (v : Nat) (s : State) : State := hand (.knob (byteOf (knobNumber s i)) (BitVec.ofNat 16 v)) s

/-- The pickup state of knob i replaced. -/
def setPickup (i : Fin 32) (p : Pickup) (s : State) : State := updKnob i (fun k => { k with pickup := some p }) s

/-- The pickup state at the first reading and at an uncatching, under the mode (R127, R134). -/
def pickupFor (mode : PickupMode) (q v : Nat) : Pickup :=
  match mode with
  | .jump => .caught
  | .catch | .relative => pickupAgainst q v

/-- The pickup state after a RELATIVE frame of value v′ (R132). -/
def pickupAfter (was : Pickup) (q v' : Nat) : Pickup :=
  match was with
  | .waitUp => if v' < q then .caught else pickupAgainst q v'
  | .waitDown => if q < v' then .caught else pickupAgainst q v'
  | .caught => .caught

/-- A change of position from q0 to q of the knob of parameter p (R130 to R132). -/
def paramKnobMoved (i : Fin 32) (p : Fin 16) (q0 q : Nat) (s : State) : State :=
  let v := baseValue p s
  match s.start.pickup, (s.panel.knobs[i].pickup.getD .caught) with
  | .jump, _ | _, .caught => handKnob i q s
  | .catch, .waitUp => if v ≤ q then handKnob i q (setPickup i .caught s) else s
  | .catch, .waitDown => if q ≤ v then handKnob i q (setPickup i .caught s) else s
  | .relative, was =>
    let v' := relativeValue q0 q v
    setPickup i (pickupAfter was q v') (handKnob i v' s)

/-- A change of position of knob i (R130 to R133). -/
def knobMoved (i : Fin 32) (q0 q : Nat) (s : State) : State :=
  match paramOfKnob s i with
  | some p => paramKnobMoved i p q0 q s
  | none => handKnob i q s

/-- The dead band and the end stops: R takes the average (R128). -/
def takesAverage (avg r : Nat) : Bool :=
  6 ≤ ((avg : Int) - r).natAbs || (avg == 0 && r != 0) || (avg == 4095 && r != 4095)

/-- The fourth sample: R, q and the pickup state are set, nothing is queued (R127). -/
def firstReading (i : Fin 32) (avg : Nat) (s : State) : State :=
  let pick := match paramOfKnob s i with
    | some p => pickupFor s.start.pickup (positionOf avg) (baseValue p s)
    | none => .caught
  updKnob i (fun k => { k with reading := some avg, pickup := some pick }) s

/-- A later sample's average against the reported reading r (R128). -/
def laterReading (i : Fin 32) (avg r : Nat) (s : State) : State :=
  if takesAverage avg r then
    let s := updKnob i (fun k => { k with reading := some avg }) s
    if positionOf avg = positionOf r then s else knobMoved i (positionOf r) (positionOf avg) s
  else s

/-- One sample result for knob i (R127, R128). -/
def knobSample (i : Fin 32) (x : BitVec 12) (s : State) : State :=
  let ring := s.panel.knobs[i].ring
  let ring' := (if ring.length < 4 then ring else ring.drop 1) ++ [x]
  let s := updKnob i (fun k => { k with ring := ring' }) s
  if ring'.length < 4 then s
  else match s.panel.knobs[i].reading with
    | none => firstReading i (ringAverage ring') s
    | some r => laterReading i (ringAverage ring') r s

/-- The sample after sample i of a round: the next knob's, or none until the next round (R125). -/
def nextSample (i : Fin 32) (s : State) : State :=
  if h : i.val + 1 < 32 then
    updPins (fun p => { p with ksel := BitVec.ofNat 4 (i.val + 1) })
      (updPanel (fun p => { p with sample := some ⟨i.val + 1, h⟩, sampleEnd := p.sampleEnd + Config.sampleUs }) s)
  else updPanel (fun p => { p with sample := none }) s

/-- A knob round begins at the time it is due (R125). -/
def beginRound (s : State) : State :=
  updPins (fun p => { p with ksel := 0 })
    (updPanel (fun p => { p with
      sample := some 0, sampleEnd := p.nextRound + Config.sampleUs, nextRound := p.nextRound + Config.roundUs }) s)

/-! ### Uncatching (R134, R135) -/

/-- This station scans the parameter knobs: its ID is 0 and its scanner runs (R124, R129). -/
def scansParams (s : State) : Bool := s.panel.running && stationId s == 0

/-- The pickup state of parameter knob p set from q and the live value, if it has a q (R134 step 2). -/
def repick (p : Fin 16) (s : State) : State :=
  match s.panel.knobs[knobOfParam p].reading with
  | some r => setPickup (knobOfParam p) (pickupFor s.start.pickup (positionOf r) s.live[p].value) s
  | none => s

/-- Parameter knob p is uncaught (R134). -/
def uncatch (p : Fin 16) (s : State) : State :=
  if scansParams s then repick p (withdraw (isKnobFrame (byteOf p.val)) s) else s

/-- The scanner follows a morph step of parameter p in CATCH mode (R135). -/
def followStep (p : Fin 16) (s : State) : State :=
  if scansParams s && s.start.pickup == .catch then
    match s.panel.knobs[knobOfParam p].pickup with
    | some .waitUp | some .waitDown => repick p s
    | _ => s
  else s

/-! ### Switch matrix (R137 to R141) -/

/-- The raw reading of the switch at row r, column c (R137). -/
def readsClosed (raw : Vector (BitVec 8) 8) (r c : Fin 8) : Bool := raw[r].getLsbD c.val

/-- The other three corners of a rectangle with the switch at (r, c) read closed (R140). -/
def masked (raw : Vector (BitVec 8) 8) (r c : Fin 8) : Bool :=
  (List.finRange 8).any fun r' => (List.finRange 8).any fun c' =>
    r' != r && c' != c && readsClosed raw r c' && readsClosed raw r' c && readsClosed raw r' c'

/-- Row and column of a switch number (R137). -/
def rowOf (n : Fin 64) : Fin 8 := ⟨n.val / 8, by omega⟩
def colOf (n : Fin 64) : Fin 8 := ⟨n.val % 8, by omega⟩

/-- The run count of a switch after a pass that read `closed` (R139). -/
def runAfter (sw : Switch) (closed : Bool) : Nat := if closed = sw.closed then 0 else min 3 (sw.run + 1)

/-- The change of switch n is accepted at the end of this pass (R139, R140). -/
def accepted (raw : Vector (BitVec 8) 8) (n : Fin 64) (sw : Switch) : Bool :=
  runAfter sw (readsClosed raw (rowOf n) (colOf n)) == 3 && !masked raw (rowOf n) (colOf n)

/-- A switch record after a pass (R139). -/
def switchAfter (raw : Vector (BitVec 8) 8) (n : Fin 64) (sw : Switch) : Switch :=
  let closed := readsClosed raw (rowOf n) (colOf n)
  if accepted raw n sw then ⟨closed, 0⟩ else { sw with run := runAfter sw closed }

/-- The end of a pass: the records follow, and the accepted changes are reported in ascending order (R139, R141). -/
def endPass (s : State) : State :=
  let raw := s.panel.raw
  let changed := (List.finRange 64).filter fun n => accepted raw n s.panel.switches[n]
  handAll (changed.map fun n => .switch (BitVec.ofNat 6 n.val) (readsClosed raw (rowOf n) (colOf n)))
    (updPanel (fun p => { p with switches := Vector.ofFn fun n => switchAfter raw n p.switches[n] }) s)

/-- The row after row r, at the end of its slot (R137). -/
def nextRow (s : State) : State :=
  updPins (fun p => { p with sd := rowLow (s.panel.row + 1) })
    (updPanel (fun p => { p with row := p.row + 1, rowEnd := p.rowEnd + Config.rowUs }) s)

/-- The end of a row's slot: a column that reads low is a closed switch; after row 7 the pass is judged (R137, R139). -/
def rowEnds (ss : BitVec 8) (s : State) : State :=
  let last := s.panel.row = 7
  let s := nextRow (updPanel (fun p => { p with raw := updAt p.raw p.row fun _ => ~~~ ss }) s)
  if last then endPass s else s

end Sys2Proof.Machine
end

