-- ==== Sys2Proof/Machine/Patch.lean ====
section
/-!
DEFINITION. The Patch Unit (08): Param and Knob (R145, R146), a completed recall (R149, R150), morph steps (R151) and the
snapshot of a Store (R152).
-/
namespace Sys2Proof.Machine
open Sys2Proof

/-- A live parameter number (R145). -/
def paramIndex (b : Byte) : Option (Fin 16) := below 16 b

/-- A slot number (R147, R152). -/
def slotIndex (b : Byte) : Option PatchSlot := below 64 b

/-- A Param applied: the value clamped, the morph cleared, the channels recomputed (R145). -/
def applyParam (p : Fin 16) (x : BitVec 16) (s : State) : State :=
  paramsChanged [p] (updParam p (fun _ => Param.settled (clampParam x)) s)

/-- Every live value replaced by the stored ones, every morph cleared (R149). -/
def setLive (values : Vector Nat 16) (s : State) : State := { s with live := values.map Param.settled }

/-- The parameters whose live value differs from the stored one. -/
def differing (values : Vector Nat 16) (s : State) : List (Fin 16) :=
  (List.finRange 16).filter fun p => s.live[p].value != values[p]

/-- A recall of duration 0 (R149, R135). -/
def recallNow (values : Vector Nat 16) (s : State) : State :=
  let ps := differing values s
  ps.foldl (fun t p => uncatch p t) (paramsChanged ps (setLive values s))

/-- A parameter settled against its stored value: a morph starts, or any morph is cleared (R150). -/
def Param.morphTo (t ms m : Nat) (p : Param) : Param :=
  if p.value = t then { p with morph := none } else { p with morph := some ⟨p.value, t, ms, m, 0⟩ }

/-- A recall with a duration: morphs start, and their knobs are uncaught (R150, R135). -/
def recallMorph (m : Nat) (values : Vector Nat 16) (s : State) : State :=
  (differing values s).foldl (fun t p => uncatch p t)
    { s with live := Vector.ofFn fun p => s.live[p].morphTo values[p] s.ms m }

/-- The completed recall of a valid page with a morph code (R149, R150). -/
def recallApply (morph : Byte) (values : Vector Nat 16) (s : State) : State :=
  if morph = 0 then recallNow values s else recallMorph morph.toNat values s

/-! ### Morph steps (R151; log 21) -/

/-- The millisecond at which a morph's next step is due. -/
def Morph.due (m : Morph) : Nat := m.startTime + Config.morphStepMs * (m.made + 1)

/-- The morph whose next step is due first, the lowest parameter among equals. -/
def firstMorph (live : Vector Param 16) : Option Morph :=
  (List.finRange 16).foldl (fun best p =>
    match live[p].morph, best with
    | some m, some b => if m.due < b.due then some m else best
    | some m, none => some m
    | none, _ => best) none

/-- The parameters whose morphs share a start time. -/
def morphGroup (t0 : Nat) (live : Vector Param 16) : List (Fin 16) :=
  (List.finRange 16).filter fun p => match live[p].morph with | some m => m.startTime == t0 | none => false

/-- One step of a parameter's morph (R151). -/
def Param.step (p : Param) : Param :=
  match p.morph with
  | some m =>
    ⟨morphValue m.start m.target (m.made + 1) m.count,
      if m.made + 1 = m.count then none else some { m with made := m.made + 1 }⟩
  | none => p

/-- The steps of one group: values, one recomputation, then the scanner (R151, R135). -/
def stepGroup (ps : List (Fin 16)) (s : State) : State :=
  let stepped := ps.foldl (fun t p => updParam p Param.step t) s
  let changed := ps.filter fun p => stepped.live[p].value != s.live[p].value
  ps.foldl (fun t p => followStep p t) (paramsChanged changed stepped)

/-! ### Store and Restart -/

/-- The value of a parameter in a snapshot: its morph target, else its live value (R152); a Restart settles it there (R40). -/
def Param.aim (p : Param) : Nat :=
  match p.morph with
  | some m => m.target
  | none => p.value

/-- The snapshot of a Store (R152). -/
def snapshot (s : State) : Vector Nat 16 := s.live.map Param.aim

/-- The live table at a Restart: every morph ends at its target (R40, R143). -/
def settleLive (s : State) : State := { s with live := s.live.map fun p => Param.settled p.aim }

end Sys2Proof.Machine
end

