-- ==== Sys2Proof/Machine/FaultState.lean ====
section
/-!
DEFINITION. The fault state (11): entry to MUTED (R193), entry to SILENT (R194, R195), and how a raised fault moves it (R192).
-/
namespace Sys2Proof.Machine
open Sys2Proof

/-- The fault state becomes MUTED (R60, R84, R106, R190, R193). -/
def enterMuted (code : FaultCode) (detail : Byte) (s : State) : State :=
  let s := updStart (fun x => { x with fault := .muted }) s
  hand (faultReport code detail) (abortTune (forVoices forceLevel (emptyClaims (gatesLow s))))

/-- The bits of its frame that a station has read when the frame breaks off at the end of some bit, by the next free value: the start
bit and further ones, but not all (R7; log 36). -/
def readAtBreak (f : RawFrame) (s : State) : List Bool :=
  f.lineBits.take (1 + Config.freeBit s.freeCount % (f.lineBits.length - 1))

/-- A frame of the station's own on the line breaks off, and the place is lost (R5, R7). -/
def breakOwnFrame (s : State) : State :=
  match s.link.place, onLineEntry s with
  | .sending, some e => leaveLine (readAtBreak (e.sent s) s) s
  | .sending, none => setPlace (.lost s.now) s
  | _, _ => s

/-- The transmit queue is flushed without notices, and a frame on the line breaks off (R7, R18). -/
def flushQueue (s : State) : State := updLink (fun l => { l with queue := [], notices := [] }) (breakOwnFrame s)

/-- The start-up loads are abandoned: nothing further is handed over, unstarted reads leave the queue, a read in flight ends
unused (R34, R168; log 13). -/
def abandonLoads (s : State) : State :=
  if s.start.phase = .loading then
    updStart (fun x => { x with load := .none }) (restartMemory s)
  else s

/-- The fault state becomes SILENT (R7, R18, R34, R60, R84, R122, R190, R194, R195). -/
def enterSilent (code : FaultCode) (detail : Byte) (s : State) : State :=
  let s := updStart (fun x => { x with
    fault := .silent, silencing := some (code, detail), listenTimer := none, setupTimer := none }) s
  abandonLoads (abortTune (emptyClaims (gatesLow (stopScheduler (flushQueue s)))))

/-- A fault is raised (R192). -/
def raiseFault (code : FaultCode) (detail : Byte) (s : State) : State :=
  match s.start.fault, code with
  | .normal, .dacStall => enterMuted code detail s
  | .normal, .dupId | .muted, _ => enterSilent code detail s
  | .silent, _ => s

end Sys2Proof.Machine
end

