-- ==== Sys2Proof/Machine/Join.lean ====
section
/-!
DEFINITION. Joining (02) and the ends of memory operations (09): Setup (R35, R36), LOADING from probe to RUNNING (R37, R38), the
results of page reads (R148, R149, R163), the ends of page writes (R162, R167), Restart (R40) and reset (R42).
-/
namespace Sys2Proof.Machine
open Sys2Proof

/-! ### Entering RUNNING (R38, R41, R195) -/

/-- The station enters RUNNING: the scanner starts, the loads are done, and a silencing fault record is reported. -/
def enterRunning (s : State) : State :=
  let s := startScanner s
  let t := updStart (fun x => { x with phase := .running, loadsDone := true, load := .none, silencing := none }) s
  match s.start.silencing with
  | some (code, detail) => hand (faultReport code detail) t
  | none => t

/-- The end of LOADING (R38). -/
def endLoading (s : State) : State :=
  enterRunning (updSched (fun c => { c with started := true }) (fullPostAll (loadVoices s)))

/-! ### LOADING (R37) -/

/-- The probe begins when the port is idle (R159). -/
def startProbe (s : State) : State :=
  match s.start.load, s.mem.port with
  | .probeWaiting, .idle =>
    updPins (fun p => { p with mcs := false })
      (updMem (fun m => { m with port := .probing (s.now + Config.probeUs) })
        (updStart (fun x => { x with load := .probing }) s))
  | _, _ => s

/-- LOADING is entered: the probe is the first load (R37). -/
def enterLoading (s : State) : State :=
  startProbe (updStart (fun x => { x with phase := .loading, load := .probeWaiting }) s)

/-- The start-up reads, in order (R37). -/
def startupReads (s : State) : List MemReq :=
  (((List.finRange 6).filter (served s)).map fun u => MemReq.calRead u) ++ [.recallRead s.start.initialPatch 0]

/-- The Start-up Controller hands over reads while the queue has room (R37, R162). -/
def fillLoads (s : State) : State :=
  match s.start.load with
  | .reads rest =>
    let room := Config.memCapacity - s.mem.queue.length
    (rest.take room).foldl (fun t r => memRequest r t)
      (updStart (fun x => { x with load := .reads (rest.drop room) }) s)
  | _ => s

/-- The last start-up read is complete (R38). -/
def loadsComplete (s : State) : State :=
  if s.start.phase = .loading ∧ s.start.load = .reads [] ∧ s.mem.queue = [] then endLoading s else s

/-- The calibration state of every voice at its reset value (R37; log 20). -/
def uncalibrate (s : State) : State := forVoices (fun u t => updCalib u (fun _ => Calib.reset) t) s

/-- The probe's result: ABSENT ends the loads, PRESENT brings the reads (R37, R159); a result no load waits for is dropped
(log 19). -/
def probeResult (status : Byte) (s : State) : State :=
  if s.start.phase = .loading ∧ s.start.load = .probing then
    if status = 0xFF then
      endLoading (uncalibrate (memoryReport .noMemory 255 (updMem (fun m => { m with status := .absent }) s)))
    else
      fillLoads (updStart (fun x => { x with load := .reads (startupReads s) })
        (updMem (fun m => { m with status := .present }) s))
  else s

/-- The probe's status read ends (R158, R159). -/
def probeEnds (status : Byte) (s : State) : State :=
  startProbe (beginService (probeResult status
    (updPins (fun p => { p with mcs := true }) (updMem (fun m => { m with port := .idle }) s))))

/-! ### Results of page reads (R148, R149, R163) -/

/-- The result of a RECALL-READ: applied, or reported; discarded in SILENT (R144, R148 to R150). In LOADING the values are set
without recomputation and uncatching (R149). -/
def recallResult (slot : PatchSlot) (morph : Byte) (page : Vector Byte 64) (s : State) : State :=
  if s.start.fault = .silent then s
  else match judgePatch slot page with
    | .empty => memoryReport .emptySlot slot.val s
    | .bad => memoryReport .badSlot slot.val s
    | .valid values => if s.start.phase = .loading then setLive values s else recallApply morph values s

/-- The result of a CAL-READ (R38, R165). -/
def calResult (u : VoiceIdx) (page : Vector Byte 64) (s : State) : State :=
  match judgeCal u page with
  | some c => updCalib u (fun _ => c) s
  | none => memoryReport .calInvalid (64 + u.val) (updCalib u (fun _ => Calib.reset) s)

/-- A page read's result to the block that asked for it; none if it is to be discarded (R163, R168). -/
def readResult (e : MemEntry) (page : Vector Byte 64) (s : State) : State :=
  if e.discard then s
  else match e.req with
    | .recallRead slot morph => recallResult slot morph page s
    | .calRead u => calResult u page s
    | .storeWrite _ _ | .calWrite _ _ _ _ _ _ => s

/-- Room notice to the waiting blocks, the next operation, and the end of the loads (R162 steps 3 and 4, R37, R38). `rival` is
what another block hands over at this moment before the request that waits for room; a request that comes after it is a command of
its own (R162; log 34). -/
def afterOperation (rival : State → State) (s : State) : State :=
  loadsComplete (startProbe (beginService (fillLoads (tuneRoom (rival s)))))

/-- A page read ends with the 64 bytes seen (R162, R163). -/
def readEnds (e : MemEntry) (page : Vector Byte 64) (rival : State → State) (s : State) : State :=
  afterOperation rival (readResult e page (finishOperation s))

/-- A page write ends ready: the page holds the bytes sent (R166). -/
def writeEnds (e : MemEntry) (rival : State → State) (s : State) : State :=
  let s := match e.req.image with
    | some bytes => { s with eeprom := Memory.writePage e.req.page bytes s.eeprom }
    | none => s
  afterOperation rival (finishOperation s)

/-- A page write fails: FAILED, the queue flushed, one Report, and a waiting block told of room (R167). -/
def writeFails (e : MemEntry) (rival : State → State) (s : State) : State :=
  let s := spoilPage e.req.page s
  let s := updPins (fun p => { p with mcs := true }) (updMem (fun m => { m with status := .failed, queue := [], port := .idle }) s)
  startProbe (tuneRoom (rival (memoryReport .memoryFault e.req.page s)))

/-! ### The join (R31, R35, R36, R41) -/

/-- The join goes on after a Setup or the defaults: RUNNING when the loads are done, else LOADING (R31, R41). -/
def joinReady (s : State) : State := if s.start.loadsDone then enterRunning s else enterLoading s

/-- The pickup mode of a Setup byte (R35). -/
def pickupOf (b : Byte) : PickupMode := if b = 1 then .catch else if b = 2 then .relative else .jump
/-- The tune limit of a Setup byte (R35). -/
def limitOf (b : Byte) : Nat := if b.toNat < 1 then 1 else if 8 < b.toNat then 8 else b.toNat
/-- The steal mode of a Setup byte (R35). -/
def stealOf (b : Byte) : StealMode := if b = 1 then .none else .oldest
/-- The initial patch of a Setup byte (R35). -/
def patchOf (b : Byte) : PatchSlot := (slotIndex b).getD 0

/-- A Setup's values held and frozen (R35). -/
def holdSetup (pickup limit steal patch : Byte) (s : State) : State :=
  updStart (fun x => { x with
    pickup := pickupOf pickup, limit := limitOf limit, steal := stealOf steal, initialPatch := patchOf patch, frozen := true }) s

/-- The phases in which a Setup is accepted (R30, R35). -/
def acceptsSetup (s : State) : Bool :=
  !s.start.frozen && (s.start.phase == .listen || s.start.phase == .announce || s.start.phase == .awaitSetup)

/-- A Setup accepted (R35). -/
def acceptSetup (pickup limit steal patch : Byte) (s : State) : State :=
  let t := holdSetup pickup limit steal patch s
  if s.start.phase = .awaitSetup then joinReady (updStart (fun x => { x with setupTimer := none }) t) else t

/-- The defaults taken and frozen (R36). -/
def takeDefaults (s : State) : State :=
  updStart (fun x => { x with
    pickup := .catch, limit := 2, steal := .oldest, initialPatch := 0, frozen := true, setupTimer := none }) s

/-- The own Hello taken in ANNOUNCE (R31). -/
def leaveAnnounce (s : State) : State :=
  if s.start.phase = .announce then
    if s.start.frozen then joinReady s
    else updStart (fun x => { x with phase := .awaitSetup, setupTimer := some (s.now + Config.setupUs) }) s
  else s

/-! ### Restart and reset (R40, R42) -/

/-- The Start-up Controller's own items at a Restart (R40): the strap results, the Setup values, the record of the loads and
the silencing fault record are kept. -/
def StartUp.restarted (now : Nat) (x : StartUp) : StartUp :=
  { x with frozen := false, phase := .listen, listenTimer := some (now + Config.listenUs), setupTimer := none
           load := .none, fault := .normal }

/-- The Link Controller at a Restart: the counters and the place in the line are kept (R26, R40). -/
def Link.restarted (l : Link) : Link := { l with queue := [], consecutive := 0, notices := [] }

/-- A Restart aimed at the station (R40). -/
def restart (s : State) : State :=
  let s := updStart (StartUp.restarted s.now) (updLink Link.restarted s)
  let s := stopScanner (settleLive (restartMemory (restartTune (restartScheduler (restartVoices s)))))
  if s.start.loadsDone then fullPostAll s else s

/-- The EEPROM after power-on or RESETn: the page of a write in flight is left unknown (R42, R168). Its 64 free bytes may spell a
valid page, as R168 allows, where R156 says that such a slot reads as invalid: the model's choice of log 10. -/
def cutWrite (s : State) : State :=
  match s.mem.port, s.mem.queue with
  | .writing _, e :: _ | .polling _ _, e :: _ => spoilPage e.req.page s
  | _, _ => s

/-- Power-on or a low level on RESETn: everything at its reset value but the clock, the commands waiting, the EEPROM and the
model's free-value counter (R42). -/
def powerOn (s : State) : State :=
  let c := cutWrite s
  { State.reset with now := s.now, pending := s.pending, eeprom := c.eeprom, freeCount := c.freeCount }

/-! ### Strap sensing (R27, R28) -/

/-- A sensing slot j begins: SDj low (R27). -/
def beginSlot (j : Fin 8) (s : State) : State :=
  updPins (fun p => { p with sd := rowLow j })
    (updStart (fun x => { x with strapSlot := some j, slotTimer := some (s.now + Config.strapSlotUs) }) s)

/-- The station ID that the sensed slots give: the index of the only slot that read low (R27). -/
def idOfSensed (low : BitVec 8) : Option Station :=
  match (List.finRange 8).filter fun j => low.getLsbD j.val with
  | [j] => some j
  | _ => none

/-- V from VCNT: 7 is held at 6 (R28). -/
def voicesOf (vcnt : BitVec 3) : Fin 7 := if h : vcnt.toNat < 7 then ⟨vcnt.toNat, h⟩ else 6

/-- The end of the eighth slot: ID, V and flags are decided, SD goes high, the line is read, and the phase is LISTEN or
STRAP-FAULT (R26, R27, R28, R31). -/
def endSensing (low : BitVec 8) (vcnt : BitVec 3) (scan : Bool) (s : State) : State :=
  let id := idOfSensed low
  setPlace (.lost s.now) (updPins (fun p => { p with sd := 0xFF }) (updStart (fun x => { x with
    strapSlot := none, slotTimer := none, sensedLow := low, stationId := id
    voiceCount := voicesOf vcnt, scan := scan, strapClamp := vcnt == 7
    phase := if id.isSome then .listen else .strapFault
    listenTimer := if id.isSome then some (s.now + Config.listenUs) else none }) s))

end Sys2Proof.Machine
end

