-- ==== Sys2Proof/Machine/Settle.lean ====
section
/-!
DEFINITION. What ends every event: the loss notices of R23 reach their blocks (log 16), the tune sequencer looks at its list
when the event could change its answer (R173; log 17), and an idle port selects when a code is pending (R112; log 18).
-/
namespace Sys2Proof.Machine
open Sys2Proof

/-- A lost refresh Tune-Begin (R179). -/
def refreshLost (s : State) : State := handRefresh (updTune (fun t => { t with refreshMark := false }) s)

/-- The effect of a loss notice on the block that queued the frame (R32, R74, R174, R179, R188). -/
def noticed (f : Frame) (s : State) : State :=
  match f with
  | .claim src n _ => dropClaims (isFor ⟨src, n⟩) s
  | .tuneBegin w false => if waitsFor w s then seqLook (leaveWait w .select s) else s
  | .tuneBegin _ true => refreshLost s
  | .tuneEnd u _ _ => if s.tune.seq = .endWait ∧ s.tune.voice = some u then hand f s else s
  | .hello _ _ _ _ => if s.start.phase = .announce then hand (helloFrame s) s else s
  | _ => s

/-- The notices delivered one after another, those that their own handling causes included, up to a bound that no run
reaches; none is left over (log 16). -/
def settle : Nat → State → State
  | 0, s => updLink (fun l => { l with notices := [] }) s
  | n + 1, s =>
    match s.link.notices with
    | [] => s
    | f :: rest => settle n (noticed f (updLink (fun l => { l with notices := rest }) s))

/-- The bound on the notices of one event. -/
def noticeBound : Nat := 64

/-- The event could change the sequencer's answer (R173). -/
def lookDue (before after : State) : Bool :=
  before.tune.seq != .select || before.tune.list != after.tune.list
    || (List.finRange 6).any fun u => before.voices[u].state != after.voices[u].state
        || before.voices[u].nominated != after.voices[u].nominated

/-- The end of an event that began in `before`. -/
def finish (before : State) (s : State) : State :=
  let s := settle noticeBound s
  let s := if lookDue before s then seqLook s else s
  selectIfPosted (settle noticeBound s)

end Sys2Proof.Machine
end

