-- ==== Sys2Proof/Machine/LineEvents.lean ====
section
/-!
DEFINITION. The line (01): how a frame of another transmitter and a frame of the station's own are taken and dispatched (R16,
R17), and the meanings of the line events: start of arbitration, lost arbitration, collision, faulty frames and start bits.
-/
namespace Sys2Proof.Machine
open Sys2Proof

/-! ### Taken frames -/

/-- The state after a frame of another transmitter has been followed to its end field and taken (R5). -/
def followed (s : State) : State := setPlace (.inPlace s.now) s

/-- A frame of another transmitter read to its end: dispatched where R17 dispatches it. -/
def hear (effect : State → State) (s : State) : State :=
  let t := followed s
  if dispatching t then effect t else t

/-- A frame of another transmitter is taken: nothing can be taken while the line is not read or the station is sending;
otherwise it is dispatched, and the event ends (log 4, log 5). -/
def takeFrame (effect : State → State) (s : State) : State :=
  if canReceive s then finish s (hear effect s) else s

/-- The queue without the entry on the line once it has been taken; a Knob entry with a follow-on value stays with that
value (R16, R20). -/
def Link.takeOwn (e : TxEntry) (l : Link) : Link :=
  match e.followOn, e.frame with
  | some v, .knob k _ =>
    { l with queue := l.queue.map fun x =>
        if x.order = e.order then { x with frame := .knob k v, onLine := false, followOn := none } else x }
  | _, _ => { l with queue := removeOrder e.order l.queue }

/-- The station's own frame is taken: removed, the consecutive collision count 0, the place kept (R5, R11, R16). -/
def ownTaken (e : TxEntry) (s : State) : State :=
  updLink (fun l => { l.takeOwn e with consecutive := 0, place := .closed s.now (e.sent s).closingRun }) s

/-- The station's own frame f is taken and dispatched; `effect` reads whether its withdrawal had been asked (R16, R136). -/
def takeOwnFrame (f : Frame) (effect : Bool → State → State) (s : State) : State :=
  match sendingEntry s with
  | some e =>
    if e.frame = f then
      let t := ownTaken e s
      finish s (if dispatching t then effect e.withdrawn t else t)
    else s
  | none => s

/-! ### Effects of frames that the station can send itself -/

/-- A Tune-Begin from station t, `own` when it is the station's own frame (R175, R176, R179). -/
def tuneBeginEffect (t : Station) (own : Bool) (w : VoiceIdx) (refresh : Bool) (s : State) : State :=
  if following s then
    let s := addPair t w s
    if own then
      if refresh then updTune (fun x => { x with refreshMark := false }) s else ownTuneBegin w s
    else s
  else s

/-- A Tune-End from station t (R177). -/
def tuneEndEffect (t : Station) (w : VoiceIdx) (s : State) : State :=
  if following s then
    let r := removePairs (fun p => p == (t, w)) s
    if t = stationId s ∧ r.tune.seq = .endWait ∧ r.tune.voice = some w then clearTuneVoice .select r else r
  else s

/-- A Recall: a RECALL-READ is handed over; a slot above 63 is ignored (R147). -/
def recallEffect (slot morph : Byte) (s : State) : State :=
  if following s then
    match slotIndex slot with
    | some i => memRequest (.recallRead i morph) s
    | none => s
  else s

/-- A Store: a STORE-WRITE of the snapshot is handed over; a slot above 63 is ignored (R152). -/
def storeEffect (slot : Byte) (s : State) : State :=
  if following s then
    match slotIndex slot with
    | some i => memRequest (.storeWrite i (snapshot s)) s
    | none => s
  else s

/-- A Knob frame: a Param for numbers 0 to 15 (R146); then another station's frame, or an own one whose withdrawal had been
asked, uncatches the knob (R134, R136). -/
def knobEffect (uncatches : Bool) (k : Byte) (x : BitVec 16) (s : State) : State :=
  if following s then
    match paramIndex k with
    | some p =>
      let s := applyParam p x s
      if uncatches then uncatch p s else s
    | none => s
  else s

/-- A Hello of another transmitter from station src: a shared ID raises DUP-ID (R34); otherwise claims, voices and tuning
follow (R33, R56, R78, R178). With the station's own ID it does nothing but raise the fault, where R33 says "every Hello" and the three
other rules "another station": the model's choice of log 39. -/
def helloEffect (src : Station) (s : State) : State :=
  if src = stationId s then raiseFault .dupId 0 s
  else if following s then
    helloTune src (helloVoices src (if playing s then withdrawClaims (isFrom src) s else s))
  else s

/-- The dispatch of the station's own frame by kind (R16, R17): the kinds it can send (Classes and kinds). -/
def ownEffect (f : Frame) (withdrawn : Bool) (s : State) : State :=
  match f with
  | .claim src n u => winClaim ⟨src, n⟩ u s
  | .tuneBegin w r => tuneBeginEffect (stationId s) true w r s
  | .tuneEnd w _ _ => tuneEndEffect (stationId s) w s
  | .knob k x => knobEffect withdrawn k x s
  | .hello _ _ _ _ => leaveAnnounce s
  | _ => s

/-! ### TRANSMIT_START (R6, R24) -/

/-- The time at which the gap has passed (R5). -/
def gapEnd (s : State) : Option Nat :=
  match s.link.place with
  | .inPlace t | .closed t _ => some (t + Config.gapInPlaceUs)
  | .lost t => some (t + Config.gapLostUs)
  | .notReading | .receiving | .sending => none

/-- A non-refresh Tune-Begin (R24). -/
def isCheckedBegin (e : TxEntry) : Bool :=
  match e.frame with
  | .tuneBegin _ false => true
  | _ => false

/-- The Tune Unit is told that a Tune-Begin was withdrawn at its check (R24, R174). -/
def withdrawnAtCheck (e : TxEntry) (s : State) : State :=
  match e.frame with
  | .tuneBegin w false => if waitsFor w s then leaveWait w .waitSlot s else s
  | _ => s

/-- The check of R24: while the offline set holds L pairs or more, the Tune-Begins at the head are withdrawn. -/
def checkHead (s : State) : State :=
  if belowLimit s then s
  else
    (s.link.queue.takeWhile isCheckedBegin).foldl (fun t e => withdrawnAtCheck e t)
      (updLink (fun l => { l with queue := l.queue.dropWhile isCheckedBegin }) s)

/-- The head of the queue goes on the line, from the place that the station has (R5, R6, R18). -/
def driveHead (s : State) : State :=
  match s.link.queue with
  | e :: rest =>
    updLink (fun l => { l with queue := { e with onLine := true } :: rest, place := .sending, before := l.place }) s
  | [] => s

def execTransmitStart (s : State) : Host.Outcome State Fault Refusal :=
  match gapEnd s with
  | some t =>
    if txEnabled s && !s.link.queue.isEmpty then .next (finish s (driveHead (checkHead (advanceTo t s)))) else .next s
  | none => .next s

/-! ### LOST_ARBITRATION (R8), COLLISION (R10) -/

/-- An entry that stays queued after its frame was not taken: off the line, a follow-on value in force (R8, R20). -/
def TxEntry.requeued (e : TxEntry) : TxEntry :=
  match e.followOn, e.frame with
  | some v, .knob k _ => { e with frame := .knob k v, onLine := false, followOn := none }
  | _, _ => { e with onLine := false }

/-- The entry of order number n requeued. -/
def requeue (n : Nat) (s : State) : State :=
  updLink (fun l => { l with queue := l.queue.map fun x => if x.order = n then x.requeued else x }) s

/-- A withdrawn frame leaves the line untaken: removed without notice; an expired claim ends with it (R22, R72). -/
def dropWithdrawn (e : TxEntry) (s : State) : State :=
  let s := updLink (fun l => { l with queue := removeOrder e.order l.queue }) s
  match e.frame with
  | .claim src n _ => endExpired ⟨src, n⟩ s
  | _ => s

def execLostArbitration (s : State) : Host.Outcome State Fault Refusal :=
  match sendingEntry s with
  | some e =>
    let t := setPlace .receiving s
    .next (finish s (if e.withdrawn then dropWithdrawn e t else requeue e.order t))
  | none => .next s

/-- The entry after a collision: a withdrawn one goes without notice, a Knob entry with a follow-on value stays, any other is
removed with its loss notice (R10, R20, R22, R23). -/
def afterCollision (e : TxEntry) (s : State) : State :=
  if e.withdrawn then dropWithdrawn e s
  else if e.followOn.isSome then requeue e.order s
  else updLink (fun l => giveNotice e.frame { l with queue := removeOrder e.order l.queue }) s

/-- The collision counted (R10, R11, R25). -/
def countCollision (s : State) : State :=
  count Counters.addCollision (updLink (fun l => { l with consecutive := l.consecutive + 1 }) s)

/-- The third consecutive collision raises DUP-ID with detail 1, and the count returns to 0 (R11, R192). The loss notice of that
collision has been acted on before: no rule orders the two, and that order is the model's choice (R23, R194; log 16). -/
def checkConsecutive (s : State) : State :=
  if 3 ≤ s.link.consecutive then raiseFault .dupId 1 (updLink (fun l => { l with consecutive := 0 }) s) else s

/-- The bit in which frame f meets its collision: one of those in which it can, by the station's next free value (R10; log 36). -/
def freeCollisionBit (f : RawFrame) (s : State) : Nat :=
  f.collisionBits.getD (Config.freeBit s.freeCount % f.collisionBits.length) 0

/-- The place is lost at a collision of the frame of entry e, with the run of R5 counted from the last dominant bit that the station
had read by then (R5, R10; log 36). -/
def loseAtCollision (e : TxEntry) (s : State) : State :=
  let f := e.sent s
  leaveLine (f.readAtCollision (freeCollisionBit f s)) s

/-- COLLISION (R5, R10, R11, R23). The loss notice of the frame reaches its block before the DUP-ID that a third collision raises: the
model's choice, as no rule orders the two (log 16). -/
def execCollision (s : State) : Host.Outcome State Fault Refusal :=
  match sendingEntry s with
  | some e =>
    .next (finish s (checkConsecutive (settle noticeBound (afterCollision e (loseAtCollision e (countCollision s))))))
  | none => .next s

/-! ### Faulty frames and start bits (R5, R6, R12, R13) -/

/-- The faulty frame counted as malformed, and the place lost (R5, R12). -/
def breakOff (found : FramingFault) (s : State) : State :=
  setPlace (.lost (s.now - Config.bitUs * found.run)) (count Counters.addMalformed s)

/-- FRAMING_ERROR (R5, R12). -/
def execFramingError (found : FramingFault) (s : State) : Host.Outcome State Fault Refusal :=
  if canReceive s then .next (breakOff found s) else .next s

/-- A discarded frame followed to its end field: the place is kept, and the bits of the frame say how many closed it (R5, R13). -/
def followedFaulty (frame : RawFrame) (s : State) : State := setPlace (.closed s.now frame.closingRun) s

/-- FRAME_DISCARDED: counted by its first fault; a station that followed it to its end field keeps its place (R5, R12, R13). -/
def execFrameDiscarded (frame : RawFrame) (s : State) : Host.Outcome State Fault Refusal :=
  if canReceive s then
    match frame.judge with
    | .checkError => .next (followedFaulty frame (count Counters.addCheckError s))
    | .malformed =>
      if 15 ≤ frame.payload.length then .next (breakOff frame.lengthFault s)
      else .next (followedFaulty frame (count Counters.addMalformed s))
    | .taken _ _ => .next s
  else .next s

/-- The place with the run of recessive bits counted again from time t (R5; log 25). -/
def Place.recount (t : Nat) : Place → Place
  | .inPlace _ | .closed _ _ => .closed t 0
  | .lost _ | .receiving => .lost t
  | .notReading => .notReading
  | .sending => .sending

/-- The place after an edge whose bit samples dominant: after 10 recessive bit times a start bit, and the frame is followed; before them
none, and the count starts again after its bit (R5; log 38). `free` recessive bits closed a taken frame of another station. -/
def Place.dominant (free now : Nat) (p : Place) : Place :=
  match p.lastDominant free with
  | some t => if t + Config.startRunUs ≤ now then .receiving else p.recount (now + Config.bitUs)
  | none => .receiving

/-- A receiver at an edge: a dominant sample begins a frame if the edge is a start bit, a recessive one none, and its run is counted again
from that bit (R5). A dominant sample uses up a free value (log 36). -/
def followEdge (sampled : Level) (s : State) : State :=
  match sampled with
  | .dominant => { setPlace (s.link.place.dominant (freeClosing s) s.now) s with freeCount := s.freeCount + 1 }
  | .recessive => setPlace (s.link.place.recount s.now) s

/-- The station is ready: the gap has passed, the transmitter is enabled and a frame waits (R6). -/
def ready (s : State) : Bool :=
  match gapEnd s with
  | some t => t ≤ s.now && txEnabled s && !s.link.queue.isEmpty
  | none => false

/-- START_BIT_RECEIVED: a ready station drives its start bit from that edge, with its checked head, and joins the arbitration,
whatever the bit then samples (log 37); any other follows the edge as a receiver, and so does one whose queue the check empties
(R5, R6, R24). -/
def execStartBitReceived (sampled : Level) (s : State) : Host.Outcome State Fault Refusal :=
  if canReceive s then
    if ready s then
      let t := checkHead s
      .next (finish s (if t.link.queue.isEmpty then followEdge sampled t else driveHead t))
    else .next (followEdge sampled s)
  else .next s

/-- OWN_FRAME_TAKEN: the frame on the line, dispatched by its kind (R16). -/
def execOwnFrameTaken (s : State) : Host.Outcome State Fault Refusal :=
  match sendingEntry s with
  | some e => .next (takeOwnFrame e.frame (ownEffect e.frame) s)
  | none => .next s

end Sys2Proof.Machine
end

