-- ==== Sys2Proof/Machine/CvPort.lean ====
section
/-!
DEFINITION. The meanings of the CV port's events (06): the steps of a write (R114), its completion (R115), the DRDY timeout (R116,
R117) and the slot ages (R112).
-/
namespace Sys2Proof.Machine
open Sys2Proof

/-- SLOT_AGE_THRESHOLD: at 2 ms or 3.5 ms an idle port selects (R112). -/
def execSlotAgeThreshold (slot : SlotIdx) (forced : Bool) (s : State) : Host.Outcome State Fault Refusal :=
  match s.slots[slot].writtenAt with
  | some t => .next (select (advanceTo (t + if forced then Config.forcedAgeUs else Config.routineAgeUs) s))
  | none => .next s

/-- The port goes on to a step of the write of slot i. -/
def portStep (i : SlotIdx) (step : WriteStep) (ends : Nat) (s : State) : State :=
  updSched (fun c => { c with port := .writing i step ends }) s

/-- The acquire begins: SHEN high (R114 step 4). -/
def beginAcquire (i : SlotIdx) (s : State) : State :=
  updPins (fun p => { p with shen := true }) (portStep i .acquire (s.now + acquireUs (channelOf i)) s)

/-- BANK_CHANGE_GAP_END: the shift begins (R114). -/
def execBankChangeGapEnd (s : State) : Host.Outcome State Fault Refusal :=
  match s.sched.port with
  | .writing i .gap ends =>
    let t := advanceTo ends s
    .next (portStep i .shift (t.now + Config.shiftUs) t)
  | _ => .next s

/-- DLD_PULSE_END: the ready wait begins, and ends at once when DRDY reads high (R114). -/
def execDldPulseEnd (drdyHigh : Bool) (s : State) : Host.Outcome State Fault Refusal :=
  match s.sched.port with
  | .writing i .shift ends =>
    let t := advanceTo ends s
    if drdyHigh then .next (beginAcquire i t) else .next (portStep i .ready (t.now + Config.readyLimitUs) t)
  | _ => .next s

/-- DRDY_READY: the first high reading ends the ready wait (R114). -/
def execDrdyReady (s : State) : Host.Outcome State Fault Refusal :=
  match s.sched.port with
  | .writing i .ready _ => .next (beginAcquire i s)
  | _ => .next s

/-- The marks of the completed write reported: the assignment to the Voice Allocator, the measurement to the Tune Unit (R48,
R115, R181). -/
def reportMarks (i : SlotIdx) (f : Option Flight) (s : State) : State :=
  match f with
  | some f =>
    let s := if f.assign then assignWritten (voiceOf i) (channelOf i) s else s
    if f.measure then measureWritten (voiceOf i) s else s
  | none => s

/-- WRITE_COMPLETE: the acquire ends, SHEN falls, and the hold begins (R114, R115). -/
def execWriteComplete (s : State) : Host.Outcome State Fault Refusal :=
  match s.sched.port with
  | .writing i .acquire ends =>
    let t := advanceTo ends s
    let w := updSlot i (Slot.complete t.now) (portStep i .hold (t.now + Config.holdUs) t)
    let w := updPins (fun p => { p with shen := false }) (updSched (fun c => { c with timeouts := 0 }) w)
    .next (finish s (reportMarks i s.slots[i].inFlight w))
  | _ => .next s

/-- HOLD_END: the port is free and selects (R112, R115). -/
def execHoldEnd (s : State) : Host.Outcome State Fault Refusal :=
  match s.sched.port with
  | .writing i .hold ends =>
    .next (select (updSched (fun c => { c with port := .idle }) (updSlot i Slot.endHold (advanceTo ends s))))
  | _ => .next s

/-- The abandoned write counted; the third in a row raises DAC-STALL with the slot as detail (R116, R117, R192). -/
def countTimeout (i : SlotIdx) (s : State) : State :=
  if 3 ≤ s.sched.timeouts + 1 then raiseFault .dacStall (byteOf i.val) (updSched (fun c => { c with timeouts := 0 }) s)
  else updSched (fun c => { c with timeouts := c.timeouts + 1 }) s

/-- DRDY_TIMEOUT (R116). -/
def execDrdyTimeout (s : State) : Host.Outcome State Fault Refusal :=
  match s.sched.port with
  | .writing i .ready ends => .next (select (finish s (countTimeout i (abandonWrite (advanceTo ends s)))))
  | _ => .next s

end Sys2Proof.Machine
end

