-- ==== Sys2Proof/Machine/MemoryPort.lean ====
section
/-!
DEFINITION. The meanings of the memory port's events (09).
-/
namespace Sys2Proof.Machine
open Sys2Proof

/-- PROBE_COMPLETE (R37, R159). -/
def execProbeComplete (status : Byte) (s : State) : Host.Outcome State Fault Refusal :=
  match s.mem.port with
  | .probing ends => .next (finish s (probeEnds status (advanceTo ends s)))
  | _ => .next s

/-- The 64 bytes a page read gives (R163; log 11). -/
def MdiPage.bytesOf (page : Nat) (eeprom : List Host.Cell) : MdiPage → Vector Byte 64
  | .fromDevice => Memory.page page eeprom
  | .bytes data => data

/-- A Recall or Store taken at the moment at which a memory operation ends (R147, R152, R162). -/
def Rival.effect : Rival → State → State
  | .none, s => s
  | .recall _ slot morph, s => if canReceive s then hear (recallEffect slot morph) s else s
  | .store _ slot, s => if canReceive s then hear (storeEffect slot) s else s

/-- PAGE_READ_COMPLETE (R162, R163). -/
def execPageReadComplete (mdi : OperationEnd MdiPage) (s : State) : Host.Outcome State Fault Refusal :=
  match s.mem.port, s.mem.queue with
  | .reading ends, e :: _ =>
    .next (finish s (readEnds e (MdiPage.bytesOf e.req.page s.eeprom mdi.seen) (Rival.effect mdi.rival) (advanceTo ends s)))
  | _, _ => .next s

/-- PAGE_WRITE_COMMAND_END: MCS rises and the polls begin (R166). -/
def execPageWriteCommandEnd (s : State) : Host.Outcome State Fault Refusal :=
  match s.mem.port with
  | .writing ends =>
    let t := advanceTo ends s
    .next (updPins (fun p => { p with mcs := true }) (updMem (fun m => { m with port := .polling t.now 0 }) t))
  | _ => .next s

/-- A poll that still reads busy, before the last one: the next is waited for; a frame taken at this moment meets no room notice
(R166). -/
def stillBusy (rise polls : Nat) (rival : Rival) (s : State) : State :=
  let t := updMem (fun m => { m with port := .polling rise (polls + 1) }) s
  match rival with
  | .none => t
  | _ => finish s (Rival.effect rival t)

/-- WRITE_POLL: the next status read; ready ends the write, the last one still busy is a memory fault (R166, R167). -/
def execWritePoll (status : OperationEnd Byte) (s : State) : Host.Outcome State Fault Refusal :=
  match s.mem.port, s.mem.queue with
  | .polling rise polls, e :: _ =>
    let t := advanceTo (rise + Config.pollUs * (polls + 1)) s
    if busy status.seen then
      if Config.pollLimit ≤ polls + 1 then .next (finish s (writeFails e (Rival.effect status.rival) t))
      else .next (stillBusy rise polls status.rival t)
    else .next (finish s (writeEnds e (Rival.effect status.rival) t))
  | _, _ => .next s

end Sys2Proof.Machine
end

