-- ==== Sys2Proof/Machine/NoteFrames.lean ====
section
/-!
DEFINITION. The meanings of the Note, Claim and Bend frames (03, 04).
-/
namespace Sys2Proof.Machine
open Sys2Proof

/-- A Note-On of velocity 1 to 127 (R64); velocity 0 acts as a Note-Off (R17). -/
def noteOffEffect (src : Station) (n : Note) (s : State) : State :=
  if playing s then noteOffVoice ⟨src, n⟩ (withdrawClaims (isFor ⟨src, n⟩) s) else s

/-- NOTE_ON (R64 to R68). -/
def execNoteOn (sender : Station) (note : Note) (velocity : Velocity) (s : State) : Host.Outcome State Fault Refusal :=
  .next (takeFrame (fun t =>
    if velocity = 0 then noteOffEffect sender note t else decideClaim ⟨sender, note⟩ velocity t) s)

/-- NOTE_OFF: the pending claim goes (R75), then the voice (R50). -/
def execNoteOff (sender : Station) (note : Note) (s : State) : Host.Outcome State Fault Refusal :=
  .next (takeFrame (noteOffEffect sender note) s)

/-- SUSTAIN (R46, R52, R76). -/
def execSustain (sender : Station) (on : Bool) (s : State) : Host.Outcome State Fault Refusal :=
  .next (takeFrame (fun t => if playing t then setSustain sender on t else t) s)

/-- ALL_NOTES_OFF: the claims of the source go (R77), then its voices (R53). -/
def execAllNotesOff (sender : Station) (s : State) : Host.Outcome State Fault Refusal :=
  .next (takeFrame (fun t =>
    if playing t then releaseVoices sender VoiceState.playsNote (withdrawClaims (isFrom sender) t) else t) s)

/-- OWN_CLAIM_TAKEN (R69, R71). -/
def execOwnClaimTaken (source : Station) (note : Note) (voice : VoiceIdx) (s : State) : Host.Outcome State Fault Refusal :=
  .next (takeOwnFrame (.claim source note voice) (fun _ => winClaim ⟨source, note⟩ voice) s)

/-- OTHER_CLAIM_TAKEN: the station's own claim for the identity is withdrawn (R70); the sender's voice index names no voice
here. A Claim of another transmitter withdraws it even when it carries this station's own ID, where R70 says "from another station": the
model's choice of log 6. -/
def execOtherClaimTaken (_sender source : Station) (note : Note) (_voice : VoiceIdx) (s : State) :
    Host.Outcome State Fault Refusal :=
  .next (takeFrame (fun t => if playing t then withdrawClaims (isFor ⟨source, note⟩) t else t) s)

/-- BEND (R46, R200). -/
def execBend (sender : Station) (value : BitVec 16) (s : State) : Host.Outcome State Fault Refusal :=
  .next (takeFrame (fun t => if playing t then setBend sender value.toInt t else t) s)

end Sys2Proof.Machine
end

