-- ==== Sys2Proof/Machine/PanelEvents.lean ====
section
/-!
DEFINITION. The meanings of the panel's events (07).
-/
namespace Sys2Proof.Machine
open Sys2Proof

/-- KNOB_ROUND_START: between rounds of a running scanner (R125). -/
def execKnobRoundStart (s : State) : Host.Outcome State Fault Refusal :=
  if s.panel.running ∧ s.panel.sample = none then .next (beginRound (advanceTo s.panel.nextRound s)) else .next s

/-- KNOB_SAMPLE_END: the next knob is selected, and the result is handled (R125, R127, R128). -/
def execKnobSampleEnd (reading : BitVec 12) (s : State) : Host.Outcome State Fault Refusal :=
  match s.panel.running, s.panel.sample with
  | true, some i => .next (finish s (knobSample i reading (nextSample i (advanceTo s.panel.sampleEnd s))))
  | _, _ => .next s

/-- MATRIX_ROW_END (R137, R139 to R141). -/
def execMatrixRowEnd (ss : BitVec 8) (s : State) : Host.Outcome State Fault Refusal :=
  if s.panel.running then .next (finish s (rowEnds ss (advanceTo s.panel.rowEnd s))) else .next s

end Sys2Proof.Machine
end

