-- ==== Sys2Proof/Machine/PatchFrames.lean ====
section
/-!
DEFINITION. The meanings of the Param, Knob, Recall and Store frames, and of a morph step (08); of the Switch and Report
frames, on which no block acts (R17).
-/
namespace Sys2Proof.Machine
open Sys2Proof

/-- PARAM: the Patch Unit, then the Panel Scanner (R134, R145). -/
def execParam (_sender : Station) (index : Byte) (value : BitVec 16) (s : State) : Host.Outcome State Fault Refusal :=
  .next (takeFrame (fun t =>
    if following t then
      match paramIndex index with
      | some p => uncatch p (applyParam p value t)
      | none => t
    else t) s)

/-- KNOB (R134, R136, R146). A Knob of another transmitter uncatches its knob even when it carries this station's own ID, where
R134 says "from a station other than this one": the model's choice of log 6. -/
def execKnob (origin : Origin) (number : Byte) (value : BitVec 16) (s : State) : Host.Outcome State Fault Refusal :=
  match origin with
  | .own => .next (takeOwnFrame (.knob number value) (fun withdrawn => knobEffect withdrawn number value) s)
  | .line _ => .next (takeFrame (knobEffect true number value) s)

/-- RECALL (R147). -/
def execRecall (_sender : Station) (slot morph : Byte) (s : State) : Host.Outcome State Fault Refusal :=
  .next (takeFrame (recallEffect slot morph) s)

/-- STORE (R152). -/
def execStore (_sender : Station) (slot : Byte) (s : State) : Host.Outcome State Fault Refusal :=
  .next (takeFrame (storeEffect slot) s)

/-- SWITCH_TAKEN: no block acts on its content (R17, R141). -/
def execSwitchTaken (origin : Origin) (number : BitVec 6) (closed : Bool) (s : State) : Host.Outcome State Fault Refusal :=
  match origin with
  | .own => .next (takeOwnFrame (.switch number closed) (fun _ t => t) s)
  | .line _ => .next (takeFrame (fun t => t) s)

/-- REPORT_TAKEN: no block acts on its content (R17, R196). -/
def execReportTaken (origin : Origin) (type : ReportType) (subject : Byte) (data : List Byte) (s : State) :
    Host.Outcome State Fault Refusal :=
  match origin with
  | .own => .next (takeOwnFrame (.report type subject data) (fun _ t => t) s)
  | .line _ => .next (takeFrame (fun t => t) s)

/-- MORPH_STEP: the step that is due first, with all the morphs of its start time (R151; log 21). -/
def execMorphStep (s : State) : Host.Outcome State Fault Refusal :=
  match firstMorph s.live with
  | some m => .next (finish s (stepGroup (morphGroup m.startTime s.live) (advanceTo (m.due * 1000) s)))
  | none => .next s

end Sys2Proof.Machine
end

