-- ==== Sys2Proof/Machine/ResetJoin.lean ====
section
/-!
DEFINITION. The meanings of reset, strap sensing and the join timers (02).
-/
namespace Sys2Proof.Machine
open Sys2Proof

/-- POWER_ON_RESET: power-on, or RESETn low (R42). -/
def execPowerOnReset (s : State) : Host.Outcome State Fault Refusal := .next (powerOn s)

/-- RESET_END: the supply is in range and RESETn high, and strap sensing begins (R27, R42). -/
def execResetEnd (s : State) : Host.Outcome State Fault Refusal :=
  if s.start.resetHeld then .next (beginSlot 0 (updStart (fun x => { x with resetHeld := false, sensedLow := 0 }) s))
  else .next s

/-- STRAP_SLOT_END: the ID pin is sampled; after the eighth slot the result is decided (R27, R28). -/
def execStrapSlotEnd (idLow : Bool) (vcnt : BitVec 3) (scanHigh : Bool) (s : State) : Host.Outcome State Fault Refusal :=
  match s.start.phase, s.start.strapSlot, s.start.slotTimer with
  | .strap, some j, some d =>
    let t := advanceTo d s
    let low := if idLow then s.start.sensedLow ||| BitVec.ofNat 8 (2 ^ j.val) else s.start.sensedLow
    if j = 7 then .next (endSensing low vcnt scanHigh t)
    else .next (beginSlot (j + 1) (updStart (fun x => { x with sensedLow := low }) t))
  | _, _, _ => .next s

/-- LISTEN_TIMER_EXPIRY: ANNOUNCE is entered and the Hello handed over (R31). -/
def execListenTimerExpiry (s : State) : Host.Outcome State Fault Refusal :=
  match s.start.phase, s.start.listenTimer with
  | .listen, some d =>
    let t := updStart (fun x => { x with phase := .announce, listenTimer := none }) (advanceTo d s)
    .next (finish s (hand (helloFrame t) t))
  | _, _ => .next s

/-- SETUP_TIMER_EXPIRY: the defaults are taken and the join goes on (R36). -/
def execSetupTimerExpiry (s : State) : Host.Outcome State Fault Refusal :=
  match s.start.phase, s.start.setupTimer with
  | .awaitSetup, some d => .next (finish s (joinReady (takeDefaults (advanceTo d s))))
  | _, _ => .next s

end Sys2Proof.Machine
end

