-- ==== Sys2Proof/Machine/StationFrames.lean ====
section
/-!
DEFINITION. The meanings of the Station frames: Hello (R31, R33, R34), Setup (R35), Query (R198) and Restart (R40).
-/
namespace Sys2Proof.Machine
open Sys2Proof

/-- HELLO: the own one ends ANNOUNCE (R31); any other is checked for a shared ID and acts on voices, claims and tuning. -/
def execHello (origin : Origin) (part revision voices flags : Byte) (s : State) : Host.Outcome State Fault Refusal :=
  match origin with
  | .own => .next (takeOwnFrame (.hello part revision voices flags) (fun _ => leaveAnnounce) s)
  | .line src => .next (takeFrame (helloEffect src) s)

/-- SETUP: the first one taken before LOADING is accepted, whoever sent it (R35). -/
def execSetup (_sender : Station) (pickup limit steal patch : Byte) (s : State) : Host.Outcome State Fault Refusal :=
  .next (takeFrame (fun t => if acceptsSetup t then acceptSetup pickup limit steal patch t else t) s)

/-- QUERY: answered by its target (R198, R199). -/
def execQuery (_sender target : Station) (item : QueryItem) (subject : Byte) (s : State) :
    Host.Outcome State Fault Refusal :=
  .next (takeFrame (fun t =>
    if target = stationId t ∧ answersQueries t then handAll (replies item subject t) t else t) s)

/-- A Restart that starts a stopped scheduler again brings a selection (R112, R119). -/
def resumeScheduler (before : State) (s : State) : State := if before.sched.stopped then select s else s

/-- RESTART: acted on by its target, in SILENT too (R17, R40). -/
def execRestart (_sender target : Station) (s : State) : Host.Outcome State Fault Refusal :=
  if canReceive s then
    let t := followed s
    if target = stationId t ∧ dispatchesRestart t then .next (resumeScheduler s (finish s (restart t)))
    else .next (finish s t)
  else .next s

end Sys2Proof.Machine
end

