-- ==== Sys2Proof/Machine/TuneFrames.lean ====
section
/-!
DEFINITION. The meanings of the Tune frames (10).
-/
namespace Sys2Proof.Machine
open Sys2Proof

/-- TUNE_REQUEST: acted on when the station mask names this station (R172). -/
def execTuneRequest (_sender : Station) (stations voices : Byte) (s : State) : Host.Outcome State Fault Refusal :=
  .next (takeFrame (fun t =>
    if playing t && stations.getLsbD (stationId t).val then requestTunes voices t else t) s)

/-- TUNE_BEGIN (R175, R176, R179). -/
def execTuneBegin (origin : Origin) (voice : VoiceIdx) (refresh : Bool) (s : State) : Host.Outcome State Fault Refusal :=
  match origin with
  | .own => .next (takeOwnFrame (.tuneBegin voice refresh) (fun _ t => tuneBeginEffect (stationId t) true voice refresh t) s)
  | .line src => .next (takeFrame (tuneBeginEffect src false voice refresh) s)

/-- TUNE_END: the outcome and the detail are not acted on (R177). -/
def execTuneEnd (origin : Origin) (voice : VoiceIdx) (outcome : TuneOutcome) (detail : Byte) (s : State) :
    Host.Outcome State Fault Refusal :=
  match origin with
  | .own => .next (takeOwnFrame (.tuneEnd voice outcome detail) (fun _ t => tuneEndEffect (stationId t) voice t) s)
  | .line src => .next (takeFrame (tuneEndEffect src voice) s)

/-- TUNE_STOP: every station that takes it acts on it (R189). -/
def execTuneStop (_sender : Station) (s : State) : Host.Outcome State Fault Refusal :=
  .next (takeFrame (fun t => if following t then stopTune t else t) s)

end Sys2Proof.Machine
end

