-- ==== Sys2Proof/Machine/TuneMeasure.lean ====
section
/-!
DEFINITION. The meanings of the tune measurement's events (10).
-/
namespace Sys2Proof.Machine
open Sys2Proof

/-- SETTLE_TIMER_EXPIRY: the counter is armed with N periods and the start limit (R171, R181 step 4). -/
def execSettleTimerExpiry (s : State) : Host.Outcome State Fault Refusal :=
  match s.tune.settleTimer, s.tune.work with
  | some d, some w =>
    let t := advanceTo d s
    .next (updTune (fun x => { x with
      settleTimer := none, counter := .armed (periodsAt w.k) (t.now + Config.startLimitUs) }) t)
  | _, _ => .next s

/-- TIN_FIRST_EDGE: the counter starts from 0 (R171). -/
def execTinFirstEdge (s : State) : Host.Outcome State Fault Refusal :=
  match s.tune.counter with
  | .armed n _ => .next (updTune (fun x => { x with counter := .counting n s.now }) s)
  | _ => .next s

/-- The microsecond, rounded up, at which a count of 8 MHz cycles is reached (R171; log 27). -/
def countUs (cycles : Nat) : Nat := (cycles + 7) / 8

/-- COUNT_END: the Nth edge with the count T (R171, R182 to R188). -/
def execCountEnd (count : BitVec 20) (s : State) : Host.Outcome State Fault Refusal :=
  match s.tune.counter with
  | .counting _ since => .next (finish s (countResult count.toNat (advanceTo (since + countUs count.toNat) s)))
  | _ => .next s

/-- START_LIMIT_EXPIRY: NO-SIGNAL (R171, R184). -/
def execStartLimitExpiry (s : State) : Host.Outcome State Fault Refusal :=
  match s.tune.counter with
  | .armed _ limit => .next (finish s (failCount .noSignal (advanceTo limit s)))
  | _ => .next s

/-- COUNT_OVERFLOW: the count reaches 978,499, OUT-OF-RANGE (R171, R184). -/
def execCountOverflow (s : State) : Host.Outcome State Fault Refusal :=
  match s.tune.counter with
  | .counting _ since => .next (finish s (failCount .outOfRange (advanceTo (since + countUs (Config.countMax + 1)) s)))
  | _ => .next s

/-- REFRESH_TIMER_EXPIRY: a further refresh for a voice still TUNING; the timer does not start again (R178). -/
def execRefreshTimerExpiry (s : State) : Host.Outcome State Fault Refusal :=
  match s.tune.refreshTimer with
  | some d => .next (finish s (handRefresh (updTune (fun x => { x with refreshTimer := none }) (advanceTo d s))))
  | none => .next s

end Sys2Proof.Machine
end

