-- ==== Sys2Proof/Machine/VoiceTimers.lean ====
section
/-!
DEFINITION. The meanings of the voice timers (R49, R51, R55, R61), the claim timeout (R72) and the glide timer (R93). An expiry
moves the clock to the timer's end; of a stopped timer it changes nothing (log 3, log 4).
-/
namespace Sys2Proof.Machine
open Sys2Proof

/-- GAP_TIMER_EXPIRY: the gap has run, which may end GATING (R49). -/
def execGapTimerExpiry (voice : VoiceIdx) (s : State) : Host.Outcome State Fault Refusal :=
  match s.voices[voice].gapTimer with
  | some d =>
    .next (finish s (endGating voice
      (updVoice voice (fun v => { v with gapTimer := none, gapRun := true }) (advanceTo d s))))
  | none => .next s

/-- The recorded Note-Off of a HELD voice is applied and its flag cleared (R51). -/
def applyRecorded (u : VoiceIdx) (s : State) : State :=
  let s := if s.voices[u].state = .held then applyNoteOff u s else s
  updVoice u (fun v => { v with offPending := false }) s

/-- MINIMUM_GATE_EXPIRY (R51), in every fault state (R61). -/
def execMinimumGateExpiry (voice : VoiceIdx) (s : State) : Host.Outcome State Fault Refusal :=
  match s.voices[voice].minGateTimer with
  | some d =>
    .next (finish s (applyRecorded voice (updVoice voice (fun v => { v with minGateTimer := none }) (advanceTo d s))))
  | none => .next s

/-- RELEASE_TIMER_EXPIRY: the voice becomes IDLE (R55), in every fault state (R61). -/
def execReleaseTimerExpiry (voice : VoiceIdx) (s : State) : Host.Outcome State Fault Refusal :=
  match s.voices[voice].state, s.voices[voice].releaseTimer with
  | .releasing, some d =>
    let t := advanceTo d s
    .next (finish s (updVoice voice (Voice.toIdle t.ms) t))
  | _, _ => .next s

/-- CLAIM_TIMEOUT (R72); an entry already marked expired has no timer left. -/
def execClaimTimeout (source : Station) (note : Note) (s : State) : Host.Outcome State Fault Refusal :=
  match claimOf ⟨source, note⟩ s with
  | some c => if c.expired then .next s else .next (finish s (claimExpires ⟨source, note⟩ (advanceTo c.timer s)))
  | none => .next s

/-- GLIDE_STEP (R93). -/
def execGlideStep (voice : VoiceIdx) (s : State) : Host.Outcome State Fault Refusal :=
  match s.glides[voice].timer with
  | some d => .next (finish s (glideStep voice d (advanceTo d s)))
  | none => .next s

end Sys2Proof.Machine
end

