-- ==== Sys2Proof/Machine/Dispatch.lean ====
section
/-! DEFINITION. The one dispatch: each command's arm is one call of its meaning. -/
namespace Sys2Proof.Machine
open Sys2Proof

def exec (i : Instr) (s : State) : Host.Outcome State Fault Refusal :=
  match i with
  | .powerOnReset => Sys2Proof.Machine.execPowerOnReset s
  | .resetEnd => Sys2Proof.Machine.execResetEnd s
  | .strapSlotEnd idLow vcnt scanHigh => Sys2Proof.Machine.execStrapSlotEnd idLow vcnt scanHigh s
  | .listenTimerExpiry => Sys2Proof.Machine.execListenTimerExpiry s
  | .setupTimerExpiry => Sys2Proof.Machine.execSetupTimerExpiry s
  | .transmitStart => Sys2Proof.Machine.execTransmitStart s
  | .lostArbitration => Sys2Proof.Machine.execLostArbitration s
  | .collision => Sys2Proof.Machine.execCollision s
  | .framingError found => Sys2Proof.Machine.execFramingError found s
  | .frameDiscarded frame => Sys2Proof.Machine.execFrameDiscarded frame s
  | .ownFrameTaken => Sys2Proof.Machine.execOwnFrameTaken s
  | .noteOn sender note velocity => Sys2Proof.Machine.execNoteOn sender note velocity s
  | .noteOff sender note => Sys2Proof.Machine.execNoteOff sender note s
  | .sustain sender on => Sys2Proof.Machine.execSustain sender on s
  | .allNotesOff sender => Sys2Proof.Machine.execAllNotesOff sender s
  | .ownClaimTaken source note voice => Sys2Proof.Machine.execOwnClaimTaken source note voice s
  | .otherClaimTaken sender source note voice => Sys2Proof.Machine.execOtherClaimTaken sender source note voice s
  | .bend sender value => Sys2Proof.Machine.execBend sender value s
  | .param sender index value => Sys2Proof.Machine.execParam sender index value s
  | .knob origin number value => Sys2Proof.Machine.execKnob origin number value s
  | .recall sender slot morph => Sys2Proof.Machine.execRecall sender slot morph s
  | .store sender slot => Sys2Proof.Machine.execStore sender slot s
  | .switchTaken origin number closed => Sys2Proof.Machine.execSwitchTaken origin number closed s
  | .reportTaken origin ty subject data => Sys2Proof.Machine.execReportTaken origin ty subject data s
  | .hello origin part revision voices flags => Sys2Proof.Machine.execHello origin part revision voices flags s
  | .setup sender pickup limit steal patch => Sys2Proof.Machine.execSetup sender pickup limit steal patch s
  | .query sender target item subject => Sys2Proof.Machine.execQuery sender target item subject s
  | .restart sender target => Sys2Proof.Machine.execRestart sender target s
  | .tuneRequest sender stations voices => Sys2Proof.Machine.execTuneRequest sender stations voices s
  | .tuneBegin origin voice refresh => Sys2Proof.Machine.execTuneBegin origin voice refresh s
  | .tuneEnd origin voice outcome detail => Sys2Proof.Machine.execTuneEnd origin voice outcome detail s
  | .tuneStop sender => Sys2Proof.Machine.execTuneStop sender s
  | .gapTimerExpiry voice => Sys2Proof.Machine.execGapTimerExpiry voice s
  | .minimumGateExpiry voice => Sys2Proof.Machine.execMinimumGateExpiry voice s
  | .releaseTimerExpiry voice => Sys2Proof.Machine.execReleaseTimerExpiry voice s
  | .claimTimeout source note => Sys2Proof.Machine.execClaimTimeout source note s
  | .glideStep voice => Sys2Proof.Machine.execGlideStep voice s
  | .slotAgeThreshold slot forced => Sys2Proof.Machine.execSlotAgeThreshold slot forced s
  | .drdyReady => Sys2Proof.Machine.execDrdyReady s
  | .writeComplete => Sys2Proof.Machine.execWriteComplete s
  | .holdEnd => Sys2Proof.Machine.execHoldEnd s
  | .drdyTimeout => Sys2Proof.Machine.execDrdyTimeout s
  | .probeComplete status => Sys2Proof.Machine.execProbeComplete status s
  | .pageReadComplete mdi => Sys2Proof.Machine.execPageReadComplete mdi s
  | .writePoll status => Sys2Proof.Machine.execWritePoll status s
  | .morphStep => Sys2Proof.Machine.execMorphStep s
  | .knobRoundStart => Sys2Proof.Machine.execKnobRoundStart s
  | .knobSampleEnd reading => Sys2Proof.Machine.execKnobSampleEnd reading s
  | .matrixRowEnd ss => Sys2Proof.Machine.execMatrixRowEnd ss s
  | .settleTimerExpiry => Sys2Proof.Machine.execSettleTimerExpiry s
  | .tinFirstEdge => Sys2Proof.Machine.execTinFirstEdge s
  | .countEnd count => Sys2Proof.Machine.execCountEnd count s
  | .startLimitExpiry => Sys2Proof.Machine.execStartLimitExpiry s
  | .countOverflow => Sys2Proof.Machine.execCountOverflow s
  | .refreshTimerExpiry => Sys2Proof.Machine.execRefreshTimerExpiry s
  | .startBitReceived sampled => Sys2Proof.Machine.execStartBitReceived sampled s
  | .bankChangeGapEnd => Sys2Proof.Machine.execBankChangeGapEnd s
  | .dldPulseEnd drdyHigh => Sys2Proof.Machine.execDldPulseEnd drdyHigh s
  | .pageWriteCommandEnd => Sys2Proof.Machine.execPageWriteCommandEnd s

end Sys2Proof.Machine
end

