-- ==== Sys2Proof/Machine/Wire.lean ====
section
/-!
DEFINITION. What the station's pins show between two events, as functions of the state (log 12): the levels it drives on VL and its
comparison with the levels it reads (R1, R8, R10), the shift of a code into the DAC (R114), the commands on the memory port with what
they read on MDI (R158, R159, R163, R166), and the knob input that the ADC converts (R125).
-/
namespace Sys2Proof.Machine
open Sys2Proof

/-! ### VL (R1, R3, R4, R8 to R10) -/

/-- The level of a line bit; `true` is recessive (R1). -/
def levelOf (b : Bool) : Level := if b then .recessive else .dominant

/-- The level of the open-drain line: recessive only while no station pulls it low (R1). -/
def lineLevel (drivers : List Level) : Level := if drivers.all (· == .recessive) then .recessive else .dominant

/-- The frame that the station is sending, as it goes on the line (R4, R15). -/
def sentFrame (s : State) : Option RawFrame :=
  (sendingEntry s).map fun e => e.sent s

/-- The level the station drives in bit time k, counted from 0 at the start bit of its frame; a station that sends nothing releases
VL (R1). -/
def vlDriven (s : State) (k : Nat) : Level :=
  match sentFrame s with
  | some f => levelOf (f.lineBits.getD k true)
  | none => .recessive

/-- The comparison of the bits sent with the bits read (R1): the first difference is a lost arbitration where recessive was sent
within the first `arb` line bits (R8), and a collision anywhere else (R10); without one the frame is taken at the end of its last bit
(R16). Too few bits read decide nothing. -/
def compareBits (arb : Nat) : List Level → List Level → Option Instr
  | [], _ => some .ownFrameTaken
  | _ :: _, [] => none
  | sent :: more, got :: rest =>
    if sent = got then compareBits (arb - 1) more rest
    else some (if sent = .recessive ∧ arb ≠ 0 then .lostArbitration else .collision)

/-- The command that the bits read while the station sends its frame make. -/
def ownOutcome (s : State) (read : List Level) : Option Instr :=
  match sentFrame s with
  | some f => compareBits f.arbitrationBits (f.lineBits.map levelOf) read
  | none => none

/-! ### Clocked bits -/

/-- Bits presented one by one before a rising clock edge: the clock level and the data level, twice for each bit. -/
def clocked {α : Type} (bits : List α) : List (Bool × α) := bits.flatMap fun b => [(false, b), (true, b)]

/-- The data at the rising edges of the clock, which stood at `last` before. -/
def onRise {α : Type} (last : Bool) : List (Bool × α) → List α
  | [] => []
  | (c, d) :: rest => if c && !last then d :: onRise c rest else onRise c rest

/-! ### The DAC (R114 step 2) -/

/-- The levels of DCLK, DDAT and DLD. -/
structure CvLevels where
  dclk : Bool
  ddat : Bool
  dld : Bool
  deriving DecidableEq, Repr

/-- The shift of a code: 16 bits, most significant first, each on DDAT before a rising DCLK edge with DLD low, and then one DLD
pulse. DCLK and DDAT are low during the pulse, where R114 gives them no level: the model's choice of log 12. -/
def shiftLevels (code : Code) : List CvLevels :=
  (clocked (bitsMsb code)).map (fun x => ⟨x.1, x.2, false⟩) ++ [⟨false, false, true⟩, ⟨false, false, false⟩]

/-- What the DAC pins show, in order, from this event to the end of the port's present step. -/
def cvWave (s : State) : List CvLevels :=
  match s.sched.port with
  | .writing i .shift _ =>
    match s.slots[i].inFlight with
    | some f => shiftLevels f.code
    | none => [⟨s.pins.dclk, s.pins.ddat, s.pins.dld⟩]
  | _ => [⟨s.pins.dclk, s.pins.ddat, s.pins.dld⟩]

/-! ### The memory port (R158) -/

/-- The commands of R158; a page command carries its page number. -/
inductive MemCommand where
  | statusRead
  | pageRead (page : Nat)
  | writeEnable
  | pageWrite (page : Nat) (data : Vector Byte 64)
  deriving DecidableEq, Repr

/-- The address of a page, 64 × p, high byte first (R158). -/
def addressBytes (p : Nat) : List Byte := twoBytes (BitVec.ofNat 16 (64 * p))

/-- The bytes a command sends on MDO (R158). -/
def MemCommand.sent : MemCommand → List Byte
  | .statusRead => [0xD7]
  | .pageRead p => 0xD2 :: addressBytes p
  | .writeEnable => [0xC6]
  | .pageWrite p data => 0xC2 :: addressBytes p ++ data.toList

/-- The number of bytes a command reads on MDI (R158). -/
def MemCommand.reads : MemCommand → Nat
  | .statusRead => 1
  | .pageRead _ => 64
  | .writeEnable | .pageWrite _ _ => 0

/-- The port time of a command: 2 µs for each byte (R158). -/
def MemCommand.us (c : MemCommand) : Nat := 2 * (c.sent.length + c.reads)

/-- The bits of a command on MDO; while a byte is read, MDO has no stated level (log 12). -/
def MemCommand.bits (c : MemCommand) : List (Option Bool) :=
  (c.sent.flatMap bitsMsb).map some ++ List.replicate (8 * c.reads) none

/-- The levels of MCS, MCK and MDO in one half cycle of the 4 MHz clock, 125 ns. -/
structure MemLevels where
  mcs : Bool
  mck : Bool
  mdo : Option Bool
  deriving DecidableEq, Repr

/-- The port outside a command, for 1 µs (R158). -/
def memRest : List MemLevels := List.replicate 8 ⟨true, false, some false⟩

/-- A command in half cycles: MCS low, MDO changing after each falling MCK edge (R158). -/
def MemCommand.levels (c : MemCommand) : List MemLevels := (clocked c.bits).map fun x => ⟨false, x.1, x.2⟩

/-- The commands that the port carries in its present step, in order (R159, R163, R166). -/
def memCommands (s : State) : List MemCommand :=
  match s.mem.port, s.mem.queue with
  | .probing _, _ => [.statusRead]
  | .reading _, e :: _ => [.pageRead e.req.page]
  | .writing _, e :: _ =>
    match e.req.image with
    | some bytes => [.writeEnable, .pageWrite e.req.page bytes]
    | none => []
  | .polling _ _, _ => [.statusRead]
  | _, _ => []

/-- What the memory port's pins show, in half cycles, for the commands of the present step: MCS is high for 1 µs before each of them
and rises after it (R158, R166; log 35). -/
def memWave (s : State) : List MemLevels :=
  (memCommands s).flatMap (fun c => memRest ++ c.levels) ++ memRest

/-! ### MDI (R158) -/

/-- The bits sampled on MDI at the rising edges of MCK; `mdi` is the level of MDI in each half cycle of the wave (R158; log 12). -/
def sampledBits (wave : List MemLevels) (mdi : List Bool) : List Bool :=
  onRise false ((wave.zip mdi).map fun x => (x.1.mck, x.2))

/-- The bytes that a command reads, most significant bit first: they come after the bytes it sends (R158). -/
def MemCommand.readBytes (c : MemCommand) (sampled : List Bool) : List Byte :=
  bytesOfBits c.reads (sampled.drop (8 * c.sent.length))

/-- The bytes that the port's present step reads with these levels on MDI; no step sends a command after one that reads (R159, R163,
R166). -/
def memRead (mdi : List Bool) (s : State) : List Byte :=
  (memCommands s).flatMap fun c => c.readBytes (sampledBits (memWave s) mdi)

/-- The command that the levels on MDI make at the end of the port's present step: the status byte, or the 64 bytes of the page (R158,
R159, R163, R166), with what another block hands over at that moment (R162). Too few levels end nothing. -/
def memOutcome (rival : Rival) (mdi : List Bool) (s : State) : Option Instr :=
  if mdi.length < (memWave s).length then none
  else match s.mem.port, memRead mdi s with
    | .probing _, [status] => some (.probeComplete status)
    | .reading _, page => some (.pageReadComplete ⟨.bytes (Vector.ofFn fun i => page.getD i.val 0xFF), rival⟩)
    | .writing _, _ => some .pageWriteCommandEnd
    | .polling _ _, [status] => some (.writePoll ⟨status, rival⟩)
    | _, _ => none

/-! ### The knob inputs (R125) -/

/-- The inputs of the on-chip ADC (R125). -/
inductive AdcInput where
  | kin0 | kin1
  deriving DecidableEq, Repr

/-- The input that the ADC converts for knob i (R125). -/
def knobInput (i : Fin 32) : AdcInput := if i.val < 16 then .kin0 else .kin1

/-- The knob that the multiplexer of an input feeds to it at a value of KSEL0–3 (R125). -/
def AdcInput.knob (input : AdcInput) (ksel : BitVec 4) : Fin 32 :=
  match input with
  | .kin0 => Fin.ofNat 32 ksel.toNat
  | .kin1 => Fin.ofNat 32 (16 + ksel.toNat)

/-- The knob whose sample is in progress (R125). -/
def sampledKnob (s : State) : Option (Fin 32) := if s.panel.running then s.panel.sample else none

/-- The input that the ADC converts at this moment: it is idle but for the last 10 µs of a sample (R125). -/
def adcConverts (s : State) : Option AdcInput :=
  if s.panel.sampleEnd ≤ s.now + Config.convertUs ∧ s.now < s.panel.sampleEnd then (sampledKnob s).map knobInput else none

/-- The command that the conversion of a sample ends with, from the 12-bit values of the two inputs (R125). -/
def sampleOutcome (kin : AdcInput → BitVec 12) (s : State) : Option Instr :=
  (sampledKnob s).map fun i => .knobSampleEnd (kin (knobInput i))

/-- The 12-bit values of the two inputs, from those of the 32 knobs, at the station's KSEL0–3 (R125). -/
def kinOf (knobs : Fin 32 → BitVec 12) (s : State) (input : AdcInput) : BitVec 12 := knobs (input.knob s.pins.ksel)

end Sys2Proof.Machine
end

