-- ==== Sys2Proof/Safety.lean ====
section
/-!
DEFINITION. What counts as a safe state: the laws of the device that the spec states, as predicates that reset has and every
step keeps.
-/
namespace Sys2Proof.Safety
open Sys2Proof Sys2Proof.Machine

/-- R59: a gate is high only while its voice is HELD or SUSTAINED and the station is RUNNING and NORMAL; the gates from V on
are low. -/
def GateLaw (s : State) : Prop :=
  ∀ u : VoiceIdx, s.gates[u] = true →
    (s.voices[u].state = .held ∨ s.voices[u].state = .sustained) ∧ playing s = true ∧ served s u = true

/-- R7: only a station whose transmitter is enabled has a frame of its own on the line; SILENT, STRAP and STRAP-FAULT do not
transmit. -/
def TransmitLaw (s : State) : Prop := s.link.place = .sending → txEnabled s = true

/-- Entry a may stand before entry b: a lower field, or an equal field and an older entry (R18). -/
def TxEntry.before (a b : TxEntry) : Prop := a.field < b.field ∨ (a.field = b.field ∧ a.order < b.order)

/-- Two entries are not Knob entries for one knob (R18). -/
def TxEntry.apart (a b : TxEntry) : Prop :=
  match a.frame, b.frame with
  | .knob j _, .knob k _ => j ≠ k
  | _, _ => True

/-- R18: at most 16 entries, in ascending field order with equal fields oldest first, one Knob entry per knob, order numbers
distinct and already given; the mark of the frame on the line stands on one entry while the station sends and on none
otherwise. R9, R15: the field of an entry is made of the class of its frame, a rank and a station ID. -/
def QueueLaw (s : State) : Prop :=
  s.link.queue.length ≤ 16 ∧ s.link.queue.Pairwise TxEntry.before ∧ s.link.queue.Pairwise TxEntry.apart ∧
  s.link.queue.Pairwise (fun a b => a.order ≠ b.order) ∧ (∀ e ∈ s.link.queue, e.order < s.link.nextOrder) ∧
  (s.link.queue.filter fun e => e.onLine).length = (if s.link.place = .sending then 1 else 0) ∧
  (∀ e ∈ s.link.queue, ∃ (rank : Fin 256) (sender : Station), e.field = arbField e.frame.cls rank.val sender.val)

/-- R63: at most 4 entries, no two for one identity and no two naming one voice, and a voice is nominated exactly when an entry
names it. R47: no two voices hold one identity, and an identity with a pending entry is held by no other voice than the entry's
own. -/
def ClaimLaw (s : State) : Prop :=
  s.claims.length ≤ 4 ∧ s.claims.Pairwise (fun a b => a.ident ≠ b.ident ∧ a.voice ≠ b.voice) ∧
  (∀ u : VoiceIdx, s.voices[u].nominated = s.claims.any fun c => c.voice == u) ∧
  (∀ u v : VoiceIdx, s.voices[u].ident ≠ none → s.voices[u].ident = s.voices[v].ident → u = v) ∧
  (∀ c ∈ s.claims, ∀ u : VoiceIdx, s.voices[u].ident = some c.ident → u = c.voice)

/-- A morph in progress: its values lie from 0 to 1023, and steps remain (R143, R151). -/
def MorphOk (m : Morph) : Prop := m.start ≤ 1023 ∧ m.target ≤ 1023 ∧ m.made < m.count

/-- R151: every live value lies from 0 to 1023. -/
def LiveLaw (s : State) : Prop :=
  ∀ p : Fin 16, s.live[p].value ≤ 1023 ∧ (∀ m, s.live[p].morph = some m → MorphOk m)

/-- R160: at most 4 requests, of which at most one is an unstarted RECALL-READ. -/
def MemQueueLaw (s : State) : Prop :=
  s.mem.queue.length ≤ 4 ∧ (s.mem.unstarted.filter fun e => e.req.isRecall).length ≤ 1

/-- R96: the committed calibration tables are strictly increasing. -/
def CalibLaw (s : State) : Prop :=
  ∀ u : VoiceIdx, increasing s.calib[u].osc1 = true ∧ increasing s.calib[u].osc2 = true

/-- R108, R113: only the slot that the port is writing has an in-flight code. -/
def PortLaw (s : State) : Prop :=
  ∀ i : SlotIdx, s.slots[i].inFlight ≠ none → ∃ step ends, s.sched.port = .writing i step ends

/-- The EEPROM's byte list is in its canonical form. -/
def EepromLaw (s : State) : Prop := Memory.wf s.eeprom = true

/-- No loss notice waits, and an idle port that selects has no pending code before it; the sequencer may rest in SELECT (R173). -/
def Quiet (s : State) : Prop :=
  s.link.notices = [] ∧ (selecting s = true → s.sched.port = .idle → ∀ i : SlotIdx, s.slots[i].pending = none)

/-- A state in which nothing is left over from an event: no loss notice waits, the sequencer is not in SELECT, and an idle port
that selects has no pending code before it. -/
def Settled (s : State) : Prop :=
  s.link.notices = [] ∧ s.tune.seq ≠ .select ∧
  (selecting s = true → s.sched.port = .idle → ∀ i : SlotIdx, s.slots[i].pending = none)

/-- The page of the page write in flight (R166, R168). -/
def writtenPage (m : MemCtl) : Option Nat :=
  match m.port, m.queue with
  | .writing _, e :: _ | .polling _ _, e :: _ => some e.req.page
  | _, _ => none

/-- The gap has passed at time g: 10 bit times after the end of a frame that was followed, 18 for a station that has lost its
place (R5). -/
def GapPassesAt (s : State) (g : Nat) : Prop :=
  (∃ t, (s.link.place = .inPlace t ∨ ∃ closing, s.link.place = .closed t closing) ∧ g = t + 20) ∨
  (∃ t, s.link.place = .lost t ∧ g = t + 36)

/-- Entry e is the station's frame on the line. -/
def OnLine (s : State) (e : TxEntry) : Prop := s.link.place = .sending ∧ onLineEntry s = some e

/-- What an abandoned write with the in-flight code f leaves of its slot (R116): no in-flight code; a pending code with the marks of f
and in group U if either was; and without a pending code, f again if it had a group. -/
def AbandonedSlot (before : Slot) (f : Flight) (after : Slot) : Prop :=
  after.inFlight = none ∧ after.lastWritten = before.lastWritten ∧ after.writtenAt = before.writtenAt ∧
  (∀ p, before.pending = some p → after.pending = some
    ⟨p.code, if p.group = .u ∨ f.group = some .u then .u else .m, p.assign || f.assign, p.measure || f.measure⟩) ∧
  (before.pending = none → after.pending = f.group.map fun g => ⟨f.code, g, f.assign, f.measure⟩)

/-- The write of slot i begins, and nothing else happens (R113, R114): the pending code, or else the last-written one, goes in flight;
the gap comes first when the bank changes. -/
def WriteBegins (s t : State) (i : SlotIdx) : Prop :=
  t = { s with
    sched := { s.sched with
      port := if s.sched.lastBank = some (voiceOf i) then .writing i .shift (s.now + 3) else .writing i .gap (s.now + 2)
      lastBank := some (voiceOf i) }
    pins := { s.pins with
      bsel := BitVec.ofNat 3 (i.val / 8), csel := BitVec.ofNat 3 (i.val % 8), dclk := false, ddat := false, dld := false, shen := false }
    slots := updAt s.slots i fun sl => { sl with
      pending := none
      inFlight := match sl.pending, sl.lastWritten with
        | some p, _ => some ⟨p.code, some p.group, p.assign, p.measure⟩
        | none, some c => some ⟨c, none, false, false⟩
        | none, none => sl.inFlight } }

/-- A selection of the scheduler with the port free (R112): the write of the chosen slot begins, and without one, or with the scheduler
stopped or not started, nothing does. -/
def SelectionMade (s t : State) : Prop :=
  ((selecting s = false ∨ chosenSlot s = none) → t = s) ∧
  (∀ i, selecting s = true → chosenSlot s = some i → WriteBegins s t i)

/-- The sequencer has chosen voice v of its list (R174): v waits in TUNE-WAIT for its Tune-Begin, which is queued; the other voices,
the list, the gates and the calibration are as in s. -/
def TuneChosen (s t : State) (v : VoiceIdx) : Prop :=
  t.tune.seq = .waitSlot ∧ t.tune.voice = some v ∧ t.tune.list = s.tune.list ∧ t.voices[v].state = .tuneWait ∧
  t.voices[v].ident = none ∧ (∀ x : VoiceIdx, x ≠ v → t.voices[x] = s.voices[x]) ∧
  (∃ e ∈ t.link.queue, e.frame = .tuneBegin v false ∧ e.onLine = false) ∧ t.gates = s.gates ∧ t.claims = s.claims ∧
  t.calib = s.calib ∧ t.eeprom = s.eeprom

/-- The tune list is in ascending order (R170), v is in it and is the lowest voice of it that qualifies (R173); v is a voice of the
station (R172), and the station plays (R57). -/
def LowestQualifies (s : State) (v : VoiceIdx) : Prop :=
  s.tune.list.Pairwise (fun a b => a < b) ∧ v ∈ s.tune.list ∧ qualifies s v = true ∧
  (∀ x ∈ s.tune.list, x < v → qualifies s x = false) ∧ served s v = true ∧ playing s = true

/-- The state that voice u returns to from TUNE-WAIT or TUNING (R58, R174). -/
def priorState (s : State) (u : VoiceIdx) : VoiceState := if s.calib[u].failures = 2 then .retired else .idle

/-- A Knob frame for knob k with value x has been handed over (R19, R20): a new entry where there was none and the queue has room;
the value of the entry there was, its follow-on value while it is on the line. -/
def KnobHanded (s t : State) (k : Byte) (x : Nat) : Prop :=
  ((∀ e ∈ s.link.queue, isKnobFor k e = false) → s.link.queue.length < 16 →
    t.link = enterFrame (.knob k (BitVec.ofNat 16 x)) (8192 + k.toNat * 8 + (stationId s).val) s.link) ∧
  ((∃ e ∈ s.link.queue, isKnobFor k e = true) →
    t.link = { s.link with
      queue := s.link.queue.map fun e =>
        if isKnobFor k e then
          (if e.onLine then { e with followOn := some (BitVec.ofNat 16 x), withdrawn := false }
            else { e with frame := .knob k (BitVec.ofNat 16 x), withdrawn := false })
        else e })

/-- The pickup state of a parameter knob at position q against value v, by mode (R127, R134). -/
def pickupAt (mode : PickupMode) (q v : Nat) : Pickup :=
  if mode = .jump then .caught else if q < v then .waitUp else if v < q then .waitDown else .caught

/-- Slot i carries code c with the measure mark, pending or in flight (R109, R113, R181). -/
def MarkedCode (s : State) (i : SlotIdx) (c : Code) : Prop :=
  (∃ p, s.slots[i].pending = some p ∧ p.code = c ∧ p.measure = true) ∨
  (s.slots[i].pending = none ∧ ∃ f, s.slots[i].inFlight = some f ∧ f.code = c ∧ f.measure = true)

/-- T is the working table w with C(0) and C(10) extrapolated (R185). -/
def Completes (w T : CalTable) : Prop :=
  (∀ j : Nat, 1 ≤ j → j ≤ 9 → tabAt T j = tabAt w j) ∧
  ((tabAt T 0).toNat : Int) = max 0 (min 65535 (2 * (tabAt w 1).toNat - (tabAt w 2).toNat)) ∧
  ((tabAt T 10).toNat : Int) = max 0 (min 65535 (2 * (tabAt w 9).toNat - (tabAt w 8).toNat))

/-- A frame that the MV6 reads from other transmitters and that is dispatched to some block, but for a Restart (R17). -/
def dispatchedKind : Instr → Bool
  | .noteOn _ _ _ | .noteOff _ _ | .sustain _ _ | .allNotesOff _ | .otherClaimTaken _ _ _ _ | .bend _ _ | .param _ _ _
  | .knob (.line _) _ _ | .recall _ _ _ | .store _ _ | .hello (.line _) _ _ _ _ | .setup _ _ _ _ _ | .query _ _ _ _
  | .tuneRequest _ _ _ | .tuneBegin (.line _) _ _ | .tuneEnd (.line _) _ _ _ | .tuneStop _ => true
  | _ => false

end Sys2Proof.Safety
end

