-- ==== Sys2Proof/Certificates/Slice0/Obligations.lean ====
section
/-!
DEFINITION. The statements for the provers, from the numbered rules of spec/. Most hold the whole next state, so that the frame
is part of the statement; `Settled` is the premise that an earlier event left nothing over.
-/
open Sys2Proof Sys2Proof.Machine Sys2Proof.Safety

/-! ### The machine -/

/-- A step takes the front command and is that command's meaning on the state with the queue's rest. On an empty queue one
microsecond passes and nothing else happens (the model's choice of log 1). -/
def Obligations.StepRunsFrontCommand : Prop :=
  (∀ (c : Instr) (rest : List Instr) (s : State), s.pending = c :: rest → step s = exec c (s.withPending rest)) ∧
  (∀ s : State, s.pending = [] → step s = .next { s with now := s.now + 1 })

/-- Every command, with any operands, ends in a next state in every state: no fault and no refusal; the waiting commands are as
they were, and the clock does not go back. That a command whose event cannot arise in a state ends in a next state all the same is the
model's reading of log 4 (DEDUCED), and that an expiry commanded late leaves the clock alone is its choice of log 3. -/
def Obligations.EveryCommandCompletes : Prop :=
  ∀ (c : Instr) (s : State), ∃ t, exec c s = .next t ∧ t.pending = s.pending ∧ s.now ≤ t.now

/-! ### Reset, straps and the join timers -/

/-- What the station holds right after reset, where the spec states it (R42, R25, R45, R46, R86, R108, R138, R143, R159, R169,
R170, R192). -/
def Obligations.ResetValues : Prop :=
  State.reset.start.phase = .strap ∧ State.reset.start.pickup = .catch ∧ State.reset.start.limit = 2 ∧
  State.reset.start.steal = .oldest ∧ State.reset.start.initialPatch = 0 ∧ State.reset.start.frozen = false ∧
  State.reset.start.loadsDone = false ∧ State.reset.start.listenTimer = none ∧ State.reset.start.setupTimer = none ∧
  State.reset.start.fault = .normal ∧ State.reset.start.silencing = none ∧
  State.reset.link.queue = [] ∧ State.reset.link.counters = ⟨0, 0, 0, 0, 0, 0⟩ ∧ State.reset.link.consecutive = 0 ∧
  (∀ u : VoiceIdx, State.reset.voices[u].state = .idle ∧ State.reset.voices[u].ident = none ∧
    State.reset.voices[u].velocity = 64 ∧ State.reset.voices[u].lastNote = none ∧ State.reset.gates[u] = false ∧
    State.reset.glides[u] = ⟨15360, 15360, none, false⟩ ∧ State.reset.calib[u].calibrated = false ∧
    State.reset.calib[u].failures = 0 ∧ State.reset.calib[u].drift = 0 ∧ State.reset.calib[u].outcome = .ok) ∧
  (∀ i : Station, State.reset.sources[i] = ⟨false, 0⟩) ∧ State.reset.claims = [] ∧
  (∀ i : SlotIdx, State.reset.slots[i] = ⟨none, none, none, none⟩) ∧ State.reset.sched.lastBank = none ∧
  State.reset.sched.timeouts = 0 ∧ State.reset.sched.port = .idle ∧
  (∀ n : Fin 64, State.reset.panel.switches[n] = ⟨false, 0⟩) ∧ (∀ i : Fin 32, State.reset.panel.knobs[i] = ⟨[], none, none⟩) ∧
  State.reset.live.toList.map Param.value = [768, 0, 512, 0, 0, 512, 512, 1023, 0, 0, 171, 512, 512, 64, 0, 512] ∧
  State.reset.mem.status = .unknown ∧ State.reset.mem.queue = [] ∧ State.reset.tune.list = [] ∧
  State.reset.tune.offline = [] ∧ State.reset.tune.seq = .idle ∧ State.reset.pins.mcs = true ∧ State.reset.pins.sd = 0xFF

/-- POWER_ON_RESET returns every block to its reset value; the clock and the commands waiting are the model's, and the EEPROM is
as it was but for the page of a write in flight (R42, R168). That the clock is kept is the model's choice of log 2; that no station ID
is held, V is 0 and the strap flags are clear until strap sensing decides them is its choice of log 7; that the reset is still held
afterwards is its reading of log 8. -/
def Obligations.PowerOnResets : Prop :=
  ∀ s : State, ∃ t, exec .powerOnReset s = .next t ∧
    t = { State.reset with now := s.now, pending := s.pending, eeprom := t.eeprom, freeCount := t.freeCount } ∧
    (Memory.wf s.eeprom = true → ∀ a : Nat,
      (∀ p, writtenPage s.mem = some p → ¬ (64 * p ≤ a ∧ a < 64 * p + 64)) →
      Memory.read a t.eeprom = Memory.read a s.eeprom)

/-- RESET_END begins strap sensing with SD0 low; STRAP_SLOT_END before the eighth slot keeps the sample of slot j, and the next SD
line alone goes low (R27).
An event that ends a timer or an interval moves the clock to that end: the model's choice of log 3. -/
def Obligations.StrapSlotSamples : Prop :=
  (∀ s : State, s.start.resetHeld = true →
    exec .resetEnd s = .next { s with
      start := { s.start with resetHeld := false, sensedLow := 0, strapSlot := some 0, slotTimer := some (s.now + 50) }
      pins := { s.pins with sd := 0xFE } }) ∧
  (∀ (s : State) (j : Fin 8) (d : Nat) (idLow : Bool) (vcnt : BitVec 3) (scan : Bool),
    s.start.phase = .strap → s.start.strapSlot = some j → s.start.slotTimer = some d → j.val < 7 →
    ∃ t, exec (.strapSlotEnd idLow vcnt scan) s = .next t ∧
      t.now = max s.now d ∧ t.start.phase = .strap ∧ t.start.strapSlot = some (j + 1) ∧
      t.start.slotTimer = some (t.now + 50) ∧ t.start.stationId = s.start.stationId ∧
      (∀ k : Fin 8, t.start.sensedLow.getLsbD k.val = (s.start.sensedLow.getLsbD k.val || (idLow && k == j))) ∧
      (∀ k : Fin 8, t.pins.sd.getLsbD k.val = (k != j + 1)) ∧
      t.link = s.link ∧ t.voices = s.voices ∧ t.gates = s.gates ∧ t.eeprom = s.eeprom)

/-- STRAP_SLOT_END of the eighth slot decides the station ID, V and the flags (R27, R28, R31): one slot read low gives LISTEN with
that ID and the 30 ms timer, any other number gives STRAP-FAULT without one; SD0–7 return high.
An event that ends a timer or an interval moves the clock to that end: the model's choice of log 3. -/
def Obligations.StrapSensingDecides : Prop :=
  ∀ (s : State) (d : Nat) (idLow : Bool) (vcnt : BitVec 3) (scan : Bool),
    s.start.phase = .strap → s.start.strapSlot = some 7 → s.start.slotTimer = some d →
    ∃ t, exec (.strapSlotEnd idLow vcnt scan) s = .next t ∧ t.pins.sd = 0xFF ∧ t.start.strapSlot = none ∧
      t.start.voiceCount.val = (if vcnt = 7 then 6 else vcnt.toNat) ∧ t.start.strapClamp = (vcnt == 7) ∧ t.start.scan = scan ∧
      (∀ j : Station,
        (∀ k : Station, ((s.start.sensedLow.getLsbD k.val || (idLow && k == 7)) = true ↔ k = j)) →
        t.start.phase = .listen ∧ t.start.stationId = some j ∧ t.start.listenTimer = some (t.now + 30000)) ∧
      ((¬ ∃ j : Station, ∀ k : Station, ((s.start.sensedLow.getLsbD k.val || (idLow && k == 7)) = true ↔ k = j)) →
        t.start.phase = .strapFault ∧ t.start.stationId = none ∧ t.start.listenTimer = none) ∧
      t.voices = s.voices ∧ t.gates = s.gates ∧ t.live = s.live ∧ t.eeprom = s.eeprom ∧ t.link.counters = s.link.counters

/-- LISTEN_TIMER_EXPIRY enters ANNOUNCE and queues the Hello of R31 behind every entry of an equal or lower field (R19).
SETUP_TIMER_EXPIRY takes and freezes the defaults, and the join goes on to RUNNING when the start-up loads are done and to LOADING
otherwise (R36).
An event that ends a timer or an interval moves the clock to that end: the model's choice of log 3. -/
def Obligations.JoinTimersExpire : Prop :=
  (
  ∀ (s : State) (d : Nat), Settled s → s.start.phase = .listen → s.start.listenTimer = some d → s.start.fault ≠ .silent →
    s.link.queue.length < 16 →
    exec .listenTimerExpiry s = .next { s with
      now := max s.now d
      start := { s.start with phase := .announce, listenTimer := none }
      link := { s.link with
        queue := insertEntry
          ⟨.hello 0x6D 1 (byteOf s.start.voiceCount.val) (flagsByte s.start), 14336 + (stationId s).val, .startUp,
            s.link.nextOrder, false, false, none⟩ s.link.queue
        nextOrder := s.link.nextOrder + 1 } }) ∧
  (
  ∀ (s : State) (d : Nat), s.start.phase = .awaitSetup → s.start.setupTimer = some d →
    ∃ t, exec .setupTimerExpiry s = .next t ∧ t.now = max s.now d ∧ t.start.setupTimer = none ∧
      t.start.pickup = .catch ∧ t.start.limit = 2 ∧ t.start.steal = .oldest ∧ t.start.initialPatch = 0 ∧
      t.start.frozen = true ∧ t.start.fault = s.start.fault ∧
      (s.start.loadsDone = true → t.start.phase = .running) ∧
      (s.start.loadsDone = false → t.start.phase = .loading ∧ t.start.loadsDone = false ∧
        (s.mem.port = .idle → t.mem.port = .probing (t.now + 4))) ∧
      t.gates = s.gates ∧ t.live = s.live ∧ t.calib = s.calib ∧ t.eeprom = s.eeprom ∧ t.mem.queue = s.mem.queue)

/-! ### The line -/

/-- TRANSMIT_START of a ready station: once the gap has passed its head frame goes on the line, unless that is a non-refresh
Tune-Begin with the offline set at its limit (R5, R6, R24). The law of the limit: while the offline set holds L pairs or more, no
non-refresh Tune-Begin begins arbitration.
An event that ends a timer or an interval moves the clock to that end: the model's choice of log 3. -/
def Obligations.TransmitStartDrivesHead : Prop :=
  (∀ (s : State) (g : Nat) (e : TxEntry) (rest : List TxEntry), Settled s → GapPassesAt s g → txEnabled s = true →
    s.link.queue = e :: rest → (isCheckedBegin e = false ∨ s.tune.offline.length < s.start.limit) →
    exec .transmitStart s = .next { s with
      now := max s.now g
      link := { s.link with queue := { e with onLine := true } :: rest, place := .sending, before := s.link.place } }) ∧
  (∀ s t : State, QueueLaw s → s.start.limit ≤ s.tune.offline.length → s.link.place ≠ .sending →
    exec .transmitStart s = .next t → ∀ e ∈ t.link.queue, e.onLine = true → isCheckedBegin e = false)

/-- LOST_ARBITRATION: the frame stays in the queue in its place, nothing is counted, and the station receives (R8). COLLISION: the
frame leaves the queue, both counts rise, and the place in the line is lost, with the run of recessive bits counted from the last
dominant bit read: the frame's bits up to the bit k that differed, and that bit at the other level; k is no recessive bit of the
arbitration field (R5, R10, R11). Where these hold no dominant bit (a start bit read as recessive), the last one lies before the frame: as
many bits before the end of the frame before as closed it, or where the station counted its run from. Which k it is, and which number c
from 3 to 8 closed a taken frame of another station, is a free value each (log 36). A Hello so lost in ANNOUNCE is handed over again (R23, R32). The third consecutive collision raises
DUP-ID with detail 1 (R11, R192), which silences the station: queue flushed, gates low, claims emptied, scheduler stopped, join
timers stopped, the fault recorded; the phase, the calibration and the EEPROM stay (R34, R122, R194, R195). -/
def Obligations.UntakenFrameIsKeptOrRemoved : Prop :=
  (
  ∀ (s : State) (e : TxEntry), Settled s → QueueLaw s → OnLine s e → e.withdrawn = false → e.followOn = none →
    exec .lostArbitration s = .next { s with
      link := { s.link with
        place := .receiving
        queue := s.link.queue.map fun x => if x.order = e.order then { x with onLine := false } else x } }) ∧
  (
  ∀ (s : State) (e : TxEntry), Settled s → OnLine s e → e.withdrawn = false → e.followOn = none →
    hasLossNotice e.frame = false → s.link.consecutive < 2 →
    let f := e.frame.raw (e.field / 8 % 256) (stationId s)
    ∃ (k c : Nat) (read : List Bool), k < f.lineBits.length ∧ (f.lineBits.getD k true = true → f.arbitrationBits ≤ k) ∧
      read = f.lineBits.take k ++ [!f.lineBits.getD k true] ∧ 3 ≤ c ∧ c ≤ 8 ∧ exec .collision s = .next { s with
      freeCount := s.freeCount + 1
      link := { s.link with
        place := .lost (match read.all id, s.link.before with
          | true, .inPlace t => t - 2 * c
          | true, .closed t closing => t - 2 * closing
          | true, .lost t => t
          | _, _ => s.now - 2 * recessiveTail read)
        queue := s.link.queue.filter fun x => x.order != e.order
        counters := { s.link.counters with
          collisions := if s.link.counters.collisions = 0xFFFF then 0xFFFF else s.link.counters.collisions + 1 }
        consecutive := s.link.consecutive + 1 } }) ∧
  (
  ∀ (s : State) (e : TxEntry) (a b c d : Byte), Settled s → OnLine s e → e.frame = .hello a b c d → e.withdrawn = false →
    e.followOn = none → s.link.consecutive < 2 → s.start.phase = .announce → s.start.fault ≠ .silent →
    s.link.queue.length ≤ 16 →
    ∃ t, exec .collision s = .next t ∧ t.start = s.start ∧ t.link.consecutive = s.link.consecutive + 1 ∧
      t.link.counters = s.link.counters.addCollision ∧ t.link.notices = [] ∧
      t.link.queue = insertEntry ⟨.hello 0x6D 1 (byteOf s.start.voiceCount.val) (flagsByte s.start), 14336 + (stationId s).val,
        .startUp, s.link.nextOrder, false, false, none⟩ (s.link.queue.filter fun x => x.order != e.order)) ∧
  (
  ∀ (s : State) (e : TxEntry), OnLine s e → s.link.consecutive = 2 → s.start.fault ≠ .silent →
    ∃ t, exec .collision s = .next t ∧ t.start.fault = .silent ∧ t.start.silencing = some (.dupId, 1) ∧
      t.start.phase = s.start.phase ∧ t.start.listenTimer = none ∧ t.start.setupTimer = none ∧
      t.link.queue = [] ∧ t.link.consecutive = 0 ∧ t.claims = [] ∧ (∀ u : VoiceIdx, t.gates[u] = false) ∧
      t.sched.stopped = true ∧ t.sched.port = .idle ∧ t.sched.lastBank = none ∧
      t.calib = s.calib ∧ t.live = s.live ∧ t.eeprom = s.eeprom ∧ t.sources = s.sources)

/-- FRAMING_ERROR and FRAME_DISCARDED (R5, R12, R13): each faulty frame is counted once, in the counter of its first fault, and
changes nothing else but the place: lost after a framing error or a length of 15, with the recessive run counted from the last dominant
bit read, which lies 7 bits back after seven recessive bits; kept by a station that followed the frame to its end field, with the run of
the recessive bits that closed it.
START_BIT_RECEIVED (R5, R6, R24): at a station that is not ready a dominant sample after 10 recessive bit times begins a frame, and before
them only starts the count again after that bit, in the gap too (log 38); these bit times count from the last dominant bit, which lies in
front of the recessive bits that closed the last frame, a free number c of them, 3 to 8, after a taken frame of another station (log 36).
A recessive sample only restarts the count of recessive bits, from that bit (log 25); a ready station drives its head frame from that edge, after the check of R24, whatever the bit then
samples (log 37), and follows the frame if the check leaves it none; no Tune-Begin joins an arbitration at the limit. -/
def Obligations.FaultyFramesAreCounted : Prop :=
  (∀ s : State, canReceive s = true →
    (∀ found, exec (.framingError found) s = .next { s with
      link := { s.link with
        place := .lost (s.now - 2 * (match found with
          | .sevenEqual .recessive => 7 | .sevenEqual .dominant | .dominantEnd => 0 | .lengthFifteen run => run.val))
        counters := s.link.counters.addMalformed } }) ∧
    (∀ f : RawFrame, f.payload.length < 15 → crc8 f.checkedBits ≠ f.check →
      exec (.frameDiscarded f) s = .next { s with
        link := { s.link with place := .closed s.now f.closingRun, counters := s.link.counters.addCheckError } }) ∧
    (∀ f : RawFrame, f.payload.length < 15 → crc8 f.checkedBits = f.check →
      Frame.ofContent f.cls.toNat f.kind.toNat f.payload = none →
      exec (.frameDiscarded f) s = .next { s with
        link := { s.link with place := .closed s.now f.closingRun, counters := s.link.counters.addMalformed } }) ∧
    ((txEnabled s = false ∨ s.link.queue = [] ∨ ∀ g, GapPassesAt s g → s.now < g) →
      let edge (p : Place) := { s with freeCount := s.freeCount + 1, link := { s.link with place := p } }
      (∀ t, s.link.place = .inPlace t → ∃ c, 3 ≤ c ∧ c ≤ 8 ∧ exec (.startBitReceived .dominant) s = .next (edge
        (if t - 2 * c + 20 ≤ s.now then .receiving else .closed (s.now + 2) 0))) ∧
      (∀ t c, s.link.place = .closed t c → exec (.startBitReceived .dominant) s = .next (edge
        (if t - 2 * c + 20 ≤ s.now then .receiving else .closed (s.now + 2) 0))) ∧
      (∀ t, s.link.place = .lost t → exec (.startBitReceived .dominant) s = .next (edge
        (if t + 20 ≤ s.now then .receiving else .lost (s.now + 2)))) ∧
      (s.link.place = .receiving → exec (.startBitReceived .dominant) s = .next (edge .receiving)) ∧
      exec (.startBitReceived .recessive) s = .next { s with
        link := { s.link with place := match s.link.place with | .lost _ | .receiving => .lost s.now | _ => .closed s.now 0 } }) ∧
    (∀ (g : Nat) (e : TxEntry) (rest : List TxEntry) (l : Level), Settled s → GapPassesAt s g → g ≤ s.now → txEnabled s = true →
      s.link.queue = e :: rest → (isCheckedBegin e = false ∨ s.tune.offline.length < s.start.limit) →
      exec (.startBitReceived l) s = .next { s with
        link := { s.link with queue := { e with onLine := true } :: rest, place := .sending, before := s.link.place } }) ∧
    (∀ (g : Nat), Settled s → GapPassesAt s g → g ≤ s.now → txEnabled s = true → s.link.queue ≠ [] →
      (∀ e ∈ s.link.queue, isCheckedBegin e = true) → s.start.limit ≤ s.tune.offline.length →
      ∃ t, exec (.startBitReceived .dominant) s = .next t ∧ t.link.place = .receiving ∧ t.link.queue = [])) ∧
  (∀ (s t : State) (l : Level), QueueLaw s → s.start.limit ≤ s.tune.offline.length → canReceive s = true →
    exec (.startBitReceived l) s = .next t → ∀ e ∈ t.link.queue, e.onLine = true → isCheckedBegin e = false)

/-- Frames on whose content no block acts (R17): a taken Switch or Report changes the place in the line and nothing else; the
station's own one also leaves the queue and returns the consecutive collision count to 0 (R11, R16), by whichever of its three
commands it is taken. In SILENT and in STRAP-FAULT so does every frame of another transmitter that is dispatched elsewhere, but for
a Restart (R17, R30). -/
def Obligations.UndispatchedFramesAreOnlyTaken : Prop :=
  (
  ∀ s : State, Settled s →
    (canReceive s = true → ∀ src n c ty sub data,
      exec (.switchTaken (.line src) n c) s = .next { s with link := { s.link with place := .inPlace s.now } } ∧
      exec (.reportTaken (.line src) ty sub data) s = .next { s with link := { s.link with place := .inPlace s.now } }) ∧
    (∀ e, OnLine s e → e.followOn = none →
      (∀ n c, e.frame = .switch n c →
        exec .ownFrameTaken s = exec (.switchTaken .own n c) s ∧
        exec (.switchTaken .own n c) s = .next { s with
          link := { s.link with
            place := .closed s.now (e.sent s).closingRun, consecutive := 0
            queue := s.link.queue.filter fun x => x.order != e.order } }) ∧
      (∀ ty sub data, e.frame = .report ty sub data →
        exec .ownFrameTaken s = exec (.reportTaken .own ty sub data) s ∧
        exec (.reportTaken .own ty sub data) s = .next { s with
          link := { s.link with
            place := .closed s.now (e.sent s).closingRun, consecutive := 0
            queue := s.link.queue.filter fun x => x.order != e.order } }))) ∧
  (
  ∀ (c : Instr) (s : State), dispatchedKind c = true → canReceive s = true → Settled s →
    (s.start.fault = .silent ∨ s.start.phase = .strapFault) →
    exec c s = .next { s with link := { s.link with place := .inPlace s.now } })

/-! ### Note, Claim and Bend frames -/

/-- NOTE_ON of a station that can offer a voice (R64, R66 to R68): the holder of the note at rank 0x00, and without a holder the
best candidate at its rank, is nominated, an entry is made with a timeout of 5 ms, and a Claim is queued with that rank; nothing
else changes. -/
def Obligations.NoteOnOpensClaim : Prop :=
  ∀ (s : State) (src : Station) (n : Note) (vel : Velocity) (u : VoiceIdx) (r : Nat),
    Settled s → canReceive s = true → playing s = true → s.start.voiceCount.val ≠ 0 → vel ≠ 0 →
    (∀ c ∈ s.claims, c.ident ≠ ⟨src, n⟩) → s.claims.length < 4 → s.link.queue.length < 16 →
    ((holder ⟨src, n⟩ s = some u ∧ s.voices[u].nominated = false ∧ r = 0) ∨
      (holder ⟨src, n⟩ s = none ∧ bestCandidate n s = some (u, r))) →
    exec (.noteOn src n vel) s = .next { s with
      claims := s.claims ++ [⟨⟨src, n⟩, vel, u, r, s.now / 1000, s.now + 5000, false⟩]
      voices := updAt s.voices u fun v => { v with nominated := true }
      link := { s.link with
        place := .inPlace s.now
        queue := insertEntry
          ⟨.claim src n u, 2048 + r * 8 + (stationId s).val, .allocator, s.link.nextOrder, false, false, none⟩ s.link.queue
        nextOrder := s.link.nextOrder + 1 } }

/-- A Note-On that opens no claim (R64, orders 1 to 6; R65, R66): nothing changes but the place in the line, and the claim-overflow
counter when the list was full. A Note-On with velocity 0 is a Note-Off from the same sender for the same note (R17). -/
def Obligations.NoteOnDeclined : Prop :=
  (∀ (s : State) (src : Station) (n : Note), exec (.noteOn src n 0) s = exec (.noteOff src n) s) ∧
  (
  ∀ (s : State) (src : Station) (n : Note) (vel : Velocity), Settled s → canReceive s = true → vel ≠ 0 →
    ((s.start.voiceCount.val = 0 ∨ playing s = false ∨ (∃ c ∈ s.claims, c.ident = ⟨src, n⟩) ∨
        (s.claims.length < 4 ∧ ∃ u, holder ⟨src, n⟩ s = some u ∧ s.voices[u].nominated = true) ∨
        (s.claims.length < 4 ∧ holder ⟨src, n⟩ s = none ∧ ∀ u, isCandidate s u = false)) →
      exec (.noteOn src n vel) s = .next { s with link := { s.link with place := .inPlace s.now } }) ∧
    (s.start.voiceCount.val ≠ 0 → playing s = true → (∀ c ∈ s.claims, c.ident ≠ ⟨src, n⟩) → 4 ≤ s.claims.length →
      exec (.noteOn src n vel) s = .next { s with
        link := { s.link with place := .inPlace s.now, counters := s.link.counters.addClaimOverflow } }))

/-- The voice offered is a candidate of the lowest rank, and of the lowest index among those (R65, R67, R68). The ranges of the rank
classes do not overlap: a free voice ranks from 0x10 to 0x20, a releasing one from 0x21 to 0x40, a sustained one from 0x41 to 0x80,
and a held or gating one from 0x81 to 0xC0. -/
def Obligations.BestCandidateIsLowest : Prop :=
  (
  ∀ (s : State) (n : Note) (u : VoiceIdx) (r : Nat),
    bestCandidate n s = some (u, r) ↔
      (isCandidate s u = true ∧ r = rankOfVoice (s.now / 1000) n s.voices[u] ∧
        ∀ v : VoiceIdx, isCandidate s v = true →
          r < rankOfVoice (s.now / 1000) n s.voices[v] ∨ (r = rankOfVoice (s.now / 1000) n s.voices[v] ∧ u ≤ v))) ∧
  (
  ∀ (ms : Nat) (n : Note) (v : Voice),
    (v.state = .idle → 0x10 ≤ rankOfVoice ms n v ∧ rankOfVoice ms n v ≤ 0x20 ∧
      (rankOfVoice ms n v = 0x10 ↔ v.lastNote = some n)) ∧
    (v.state = .releasing → 0x21 ≤ rankOfVoice ms n v ∧ rankOfVoice ms n v ≤ 0x40) ∧
    (v.state = .sustained → 0x41 ≤ rankOfVoice ms n v ∧ rankOfVoice ms n v ≤ 0x80) ∧
    (v.state = .held ∨ v.state = .gating → 0x81 ≤ rankOfVoice ms n v ∧ rankOfVoice ms n v ≤ 0xC0))

/-- NOTE_OFF by the state of the holder, when no claim for the note is pending (R50): a GATING voice records it; a HELD voice goes
to SUSTAINED or, with sustain off and RELHOLD above 0, to RELEASING with its gate low (R54); in every other case no voice
changes. -/
def Obligations.NoteOffActsOnHolder : Prop :=
  ∀ (s : State) (src : Station) (n : Note), Settled s → canReceive s = true → playing s = true →
    (∀ c ∈ s.claims, c.ident ≠ ⟨src, n⟩) →
    (holder ⟨src, n⟩ s = none →
      exec (.noteOff src n) s = .next { s with link := { s.link with place := .inPlace s.now } }) ∧
    (∀ u, holder ⟨src, n⟩ s = some u →
      (s.voices[u].state = .gating →
        exec (.noteOff src n) s = .next { s with
          link := { s.link with place := .inPlace s.now }
          voices := updAt s.voices u fun v => { v with offPending := true } }) ∧
      (s.voices[u].state = .held → s.voices[u].minGateTimer = none → s.sources[src].sustain = true →
        exec (.noteOff src n) s = .next { s with
          link := { s.link with place := .inPlace s.now }
          voices := updAt s.voices u fun v => { v with state := .sustained } }) ∧
      (s.voices[u].state = .held → s.voices[u].minGateTimer = none → s.sources[src].sustain = false →
        (s.live[(13 : Fin 16)]).value ≠ 0 →
        ∃ t, exec (.noteOff src n) s = .next t ∧
          t = { s with link := { s.link with place := .inPlace s.now }, slots := t.slots
                       gates := updAt s.gates u fun _ => false
                       voices := updAt s.voices u fun v => { v with
                         state := .releasing, gapTimer := none, minGateTimer := none, gapRun := false, offPending := false
                         doneP1 := false, doneP2 := false, releaseSince := some (s.now / 1000)
                         releaseTimer := some (s.now + (s.live[(13 : Fin 16)]).value * 8000) } } ∧
          (∀ i : SlotIdx, t.slots[i].pending.map Pend.code = s.slots[i].pending.map Pend.code ∧
            t.slots[i].lastWritten = s.slots[i].lastWritten)) ∧
      ((s.voices[u].state = .held ∧ s.voices[u].minGateTimer ≠ none) ∨ s.voices[u].state = .sustained ∨
          s.voices[u].state = .releasing →
        exec (.noteOff src n) s = .next { s with link := { s.link with place := .inPlace s.now } }))

/-- A Note-Off, an All-Notes-Off, or another station's Claim ends the station's own pending claims that it concerns (R70, R75,
R77): the entries leave the list, their Claim frames leave the queue, which stays as it was otherwise, and their voices are no longer
nominated; no counter rises. A Claim frame that meets a collision ends its entry by its loss notice (R23, R74): the claim is not queued
again, and the claim-timeout counter does not rise. That a Claim of another transmitter with this station's own ID counts as another
station's is the model's choice of log 6. -/
def Obligations.FramesEndPendingClaims : Prop :=
  (∀ (s : State) (src : Station) (n : Note), Settled s → ClaimLaw s → QueueLaw s → canReceive s = true → playing s = true →
    (∀ sender w, ∃ t, exec (.otherClaimTaken sender src n w) s = .next t ∧
      t.claims = s.claims.filter (fun c => c.ident != ⟨src, n⟩) ∧
      t.link = { s.link with
        place := .inPlace s.now
        queue := s.link.queue.filter fun e => !(s.claims.any fun c => c.ident == ⟨src, n⟩ && isClaimFor c.ident e.frame) } ∧
      (∀ u : VoiceIdx, t.voices[u] = { s.voices[u] with nominated := t.claims.any fun c => c.voice == u }) ∧
      t.gates = s.gates ∧ t.sources = s.sources ∧ t.tune = s.tune ∧ t.slots = s.slots) ∧
    (∃ t, exec (.noteOff src n) s = .next t ∧ t.claims = s.claims.filter (fun c => c.ident != ⟨src, n⟩) ∧
      t.link = { s.link with
        place := .inPlace s.now
        queue := s.link.queue.filter fun e => !(s.claims.any fun c => c.ident == ⟨src, n⟩ && isClaimFor c.ident e.frame) } ∧
      (∀ u : VoiceIdx, t.voices[u].nominated = t.claims.any fun c => c.voice == u)) ∧
    (∃ t, exec (.allNotesOff src) s = .next t ∧ t.claims = s.claims.filter (fun c => c.ident.source != src) ∧
      t.link = { s.link with
        place := .inPlace s.now
        queue := s.link.queue.filter fun e => !(s.claims.any fun c => c.ident.source == src && isClaimFor c.ident e.frame) } ∧
      (∀ u : VoiceIdx, t.voices[u].nominated = t.claims.any fun c => c.voice == u))) ∧
  (∀ (s : State) (e : TxEntry) (c : Claim) (u : VoiceIdx), Settled s → ClaimLaw s → OnLine s e →
    e.frame = .claim c.ident.source c.ident.note u → e.withdrawn = false → e.followOn = none → s.link.consecutive < 2 →
    c ∈ s.claims →
    ∃ t, exec .collision s = .next t ∧ t.claims = s.claims.filter (fun x => x.ident != c.ident) ∧
      t.voices = updAt s.voices c.voice (fun v => { v with nominated := false }) ∧
      t.link.queue = s.link.queue.filter (fun x => x.order != e.order) ∧ t.link.counters = s.link.counters.addCollision ∧
      t.link.notices = [] ∧ t.gates = s.gates ∧ t.tune = s.tune ∧ t.slots = s.slots ∧ t.start = s.start)

/-- ALL_NOTES_OFF (R53): in RUNNING and NORMAL exactly the GATING, HELD and SUSTAINED voices of the source go to RELEASING with
their gates low, or on to IDLE with RELHOLD at 0; every other voice keeps its record but for a nomination that has ended; the sustain
and bend of the source stay; under other conditions nothing changes. SUSTAIN (R46, R52): the source's entry takes the state; on
changes no voice, and off takes exactly the SUSTAINED voices of the source to RELEASING with their gates low (RELHOLD above 0). The
release and its end at RELHOLD 0 are R54's, the end of the claims R77's. -/
def Obligations.SustainActsOnItsVoices : Prop :=
  (∀ (s : State) (src : Station), Settled s → canReceive s = true →
    (playing s = false → exec (.allNotesOff src) s = .next { s with link := { s.link with place := .inPlace s.now } }) ∧
    (playing s = true →
      ∃ t, exec (.allNotesOff src) s = .next t ∧ t.now = s.now ∧ t.sources = s.sources ∧
        t.claims = s.claims.filter (fun c => c.ident.source != src) ∧ t.live = s.live ∧ t.glides = s.glides ∧ t.mem = s.mem ∧
        t.eeprom = s.eeprom ∧ t.calib = s.calib ∧ t.tune = s.tune ∧ t.panel = s.panel ∧ t.start = s.start ∧
        ∀ u : VoiceIdx,
          (served s u = true ∧ s.voices[u].state.playsNote = true ∧ s.voices[u].isOf src = true →
            t.gates[u] = false ∧
            ((s.live[(13 : Fin 16)]).value ≠ 0 → t.voices[u].state = .releasing ∧ t.voices[u].ident = s.voices[u].ident ∧
              t.voices[u].releaseTimer = some (s.now + (s.live[(13 : Fin 16)]).value * 8000)) ∧
            ((s.live[(13 : Fin 16)]).value = 0 → t.voices[u].state = .idle ∧ t.voices[u].ident = none)) ∧
          (¬ (served s u = true ∧ s.voices[u].state.playsNote = true ∧ s.voices[u].isOf src = true) →
            t.voices[u] = { s.voices[u] with nominated := t.voices[u].nominated } ∧ t.gates[u] = s.gates[u]))) ∧
  (
  ∀ (s : State) (src : Station), Settled s → canReceive s = true → playing s = true →
    (exec (.sustain src true) s = .next { s with
      link := { s.link with place := .inPlace s.now }
      sources := updAt s.sources src fun e => { e with sustain := true } }) ∧
    ((s.live[(13 : Fin 16)]).value ≠ 0 →
      ∃ t, exec (.sustain src false) s = .next t ∧
        t = { s with link := { s.link with place := .inPlace s.now }, slots := t.slots, gates := t.gates, voices := t.voices
                     sources := updAt s.sources src fun e => { e with sustain := false } } ∧
        ∀ u : VoiceIdx,
          (served s u = true ∧ s.voices[u].state = .sustained ∧ s.voices[u].isOf src = true →
            t.voices[u].state = .releasing ∧ t.voices[u].ident = s.voices[u].ident ∧ t.gates[u] = false ∧
            t.voices[u].releaseTimer = some (s.now + (s.live[(13 : Fin 16)]).value * 8000)) ∧
          (¬ (served s u = true ∧ s.voices[u].state = .sustained ∧ s.voices[u].isOf src = true) →
            t.voices[u] = s.voices[u] ∧ t.gates[u] = s.gates[u])))

/-- OWN_CLAIM_TAKEN (R47, R69): the entry is removed, and its voice takes the note in GATING with the gate low, its flags clear
and the 2 ms gap running; every other voice keeps its record and every other gate its level, and the consecutive collision count
returns to 0. The assignment's posts (R48, R103): P1 and P2 are pending in group U with the assignment mark and with the codes of
the glide position the assignment leaves, whatever the slots held. -/
def Obligations.WonClaimAssignsVoice : Prop :=
  (
  ∀ (s : State) (e : TxEntry) (src : Station) (n : Note) (u : VoiceIdx) (c : Claim), Settled s → ClaimLaw s →
    OnLine s e → e.frame = .claim src n u → e.followOn = none → playing s = true →
    c ∈ s.claims → c.ident = ⟨src, n⟩ → c.voice = u → s.voices[u].state.assignable = true →
    exec .ownFrameTaken s = exec (.ownClaimTaken src n u) s ∧
    ∃ t, exec (.ownClaimTaken src n u) s = .next t ∧
      t.voices = updAt s.voices u (fun v => { v with
        state := .gating, ident := some ⟨src, n⟩, velocity := c.velocity, lastNote := some n
        startTime := some (s.now / 1000), offPending := false, nominated := false, doneP1 := false, doneP2 := false
        gapRun := false, gapTimer := some (s.now + 2000), minGateTimer := none, releaseTimer := none }) ∧
      t.gates = updAt s.gates u (fun _ => false) ∧ t.claims = s.claims.filter (fun x => x.ident != ⟨src, n⟩) ∧
      t.link.consecutive = 0 ∧ t.link.queue = s.link.queue.filter (fun x => x.order != e.order) ∧
      t.link.counters = s.link.counters ∧ t.sources = s.sources ∧ t.live = s.live ∧ t.mem = s.mem ∧ t.eeprom = s.eeprom ∧
      t.calib = s.calib ∧ t.tune = s.tune ∧ t.panel = s.panel ∧ t.start = s.start ∧ t.now = s.now) ∧
  (
  ∀ (s : State) (u : VoiceIdx) (i : Ident) (vel : Velocity),
    (∃ m, (assign u i vel s).slots[slotOf u 0].pending =
      some ⟨pitchCode s.calib[u].osc1 (clampPitch (rawP1 (assign u i vel s) u)).toNat, .u, true, m⟩) ∧
    (∃ m, (assign u i vel s).slots[slotOf u 1].pending =
      some ⟨pitchCode s.calib[u].osc2 (clampPitch (rawP2 (assign u i vel s) u)).toNat, .u, true, m⟩))

/-- BEND (R46): the value, read as two's complement and clamped to −8192…8191, is stored for the sender; a value equal to the
stored one changes nothing; no voice record, gate or other source changes. -/
def Obligations.BendIsStored : Prop :=
  ∀ (s : State) (src : Station) (x : BitVec 16), Settled s → canReceive s = true → playing s = true →
    ∃ t, exec (.bend src x) s = .next t ∧
      t.sources = updAt s.sources src (fun e => { e with bend := max (-8192) (min 8191 x.toInt) }) ∧
      t.voices = s.voices ∧ t.gates = s.gates ∧ t.claims = s.claims ∧ t.live = s.live ∧ t.tune = s.tune ∧ t.mem = s.mem ∧
      t.eeprom = s.eeprom ∧ t.calib = s.calib ∧ t.link = { s.link with place := .inPlace s.now } ∧
      (s.sources[src].bend = max (-8192) (min 8191 x.toInt) →
        t = { s with link := { s.link with place := .inPlace s.now } })

/-! ### Patch frames and morphs -/

/-- PARAM (R144, R145): for an index from 0 to 15 the live value becomes the value clamped to 1023 and its morph is cleared, the
other parameters stay, and no voice record, gate, claim or memory request changes; an index above 15 is ignored. -/
def Obligations.ParamSetsLiveValue : Prop :=
  ∀ (s : State) (src : Station) (b : Byte) (x : BitVec 16), Settled s → canReceive s = true → following s = true →
    (∀ p : Fin 16, b.toNat = p.val →
      ∃ t, exec (.param src b x) s = .next t ∧ t.live = updAt s.live p (fun _ => ⟨min x.toNat 1023, none⟩) ∧
        t.voices = s.voices ∧ t.gates = s.gates ∧ t.claims = s.claims ∧ t.sources = s.sources ∧ t.tune = s.tune ∧
        t.mem = s.mem ∧ t.eeprom = s.eeprom ∧ t.calib = s.calib ∧ t.start = s.start ∧ t.link.counters = s.link.counters ∧
        t.panel.switches = s.panel.switches) ∧
    (16 ≤ b.toNat → exec (.param src b x) s = .next { s with link := { s.link with place := .inPlace s.now } })

/-- KNOB (R134, R136, R146): another station's Knob is a Param of the same number in everything it does. The station's own one
sets the live value too, for numbers 0 to 15, and leaves the pickup states alone unless its withdrawal had been asked. A taken own
Knob frame with a follow-on value stays queued with that value (R20); so does one that loses arbitration or meets a collision, which
is counted all the same: said here of the knob numbers from 16 on. That a Knob of another transmitter with this station's own ID
counts as another station's, where R134 and R15 read "from" by the ID, is the model's choice of log 6 (DEDUCED). -/
def Obligations.KnobActsAsParam : Prop :=
  (
  ∀ (s : State) (k : Byte) (x : BitVec 16),
    (∀ src, exec (.knob (.line src) k x) s = exec (.param src k x) s) ∧
    (∀ e, Settled s → OnLine s e → e.frame = .knob k x → e.followOn = none → e.withdrawn = false → following s = true →
      exec .ownFrameTaken s = exec (.knob .own k x) s ∧
      ∃ t, exec (.knob .own k x) s = .next t ∧
        (∀ p : Fin 16, k.toNat = p.val → t.live = updAt s.live p (fun _ => ⟨min x.toNat 1023, none⟩)) ∧
        (16 ≤ k.toNat → t.live = s.live ∧ t.slots = s.slots) ∧
        t.link.queue = s.link.queue.filter (fun y => y.order != e.order) ∧ t.link.consecutive = 0 ∧
        t.panel = s.panel ∧ t.voices = s.voices ∧ t.gates = s.gates ∧ t.eeprom = s.eeprom)) ∧
  (
  ∀ (s : State) (e : TxEntry) (k : Byte) (x y : BitVec 16), QueueLaw s → Settled s → OnLine s e → e.frame = .knob k x →
    e.followOn = some y → e.withdrawn = false → s.link.consecutive < 2 → 16 ≤ k.toNat →
    ∀ c, c = Instr.knob .own k x ∨ c = .lostArbitration ∨ c = .collision →
      ∃ t, exec c s = .next t ∧
        t.link.queue = s.link.queue.map (fun z => if z.order = e.order then
          { z with frame := .knob k y, onLine := false, followOn := none } else z) ∧
        t.link.counters.collisions =
          (if c = .collision then countUp s.link.counters.collisions else s.link.counters.collisions) ∧
        t.live = s.live ∧ t.voices = s.voices)

/-- RECALL and STORE (R147, R152, R161): a slot above 63 is ignored; otherwise the request is decided on. With room in the memory queue,
and for a Recall no unstarted one in it, it joins at the tail, a Store's with the morph target or live value of each parameter. With the
memory ABSENT or FAILED it is refused, with one Report NO-MEMORY or MEMORY-FAULT. An unstarted recall is replaced, reported as
RECALL-DROPPED under its own slot, and the new one joins at the tail. At 4 entries a Recall that replaces none, and every Store, is
dropped and reported. The live table does not change. -/
def Obligations.RecallAndStoreJoinQueue : Prop :=
  ∀ (s : State) (src : Station) (b m : Byte), Settled s → canReceive s = true → following s = true →
    (64 ≤ b.toNat →
      exec (.recall src b m) s = .next { s with link := { s.link with place := .inPlace s.now } } ∧
      exec (.store src b) s = .next { s with link := { s.link with place := .inPlace s.now } }) ∧
    (∀ slot : PatchSlot, b.toNat = slot.val → s.mem.status = .present → s.mem.queue.length < 4 →
      (s.mem.waitingRecall = none →
        ∃ t, exec (.recall src b m) s = .next t ∧ t.mem.queue = s.mem.queue ++ [⟨.recallRead slot m, false⟩] ∧
          (s.mem.port = .idle → s.mem.queue = [] → t.mem.port = .reading (s.now + 134)) ∧
          t = { s with link := { s.link with place := .inPlace s.now }, mem := t.mem, pins := t.pins }) ∧
      (∃ t v, exec (.store src b) s = .next t ∧ t.mem.queue = s.mem.queue ++ [⟨.storeWrite slot v, false⟩] ∧
        (∀ p : Fin 16, v[p] = match s.live[p].morph with | some r => r.target | none => s.live[p].value) ∧
        (s.mem.port = .idle → s.mem.queue = [] → t.mem.port = .writing (s.now + 137)) ∧
        t = { s with link := { s.link with place := .inPlace s.now }, mem := t.mem, pins := t.pins })) ∧
    (∀ slot : PatchSlot, b.toNat = slot.val → s.link.queue.length < 16 →
      let reported (code : Byte) (page : PatchSlot) := { s with
        link := enterFrame (.report .memory code [byteOf page.val]) (14336 + (stationId s).val)
          { s.link with place := .inPlace s.now } }
      (s.mem.status = .absent →
        exec (.recall src b m) s = .next (reported 4 slot) ∧ exec (.store src b) s = .next (reported 4 slot)) ∧
      (s.mem.status = .failed →
        exec (.recall src b m) s = .next (reported 5 slot) ∧ exec (.store src b) s = .next (reported 5 slot)) ∧
      (∀ (e x : MemEntry) (front back : List MemEntry) (old : PatchSlot) (m' : Byte), s.mem.status = .present →
        s.mem.port.serving = true → s.mem.queue = e :: front ++ x :: back → x.req = .recallRead old m' →
        (∀ y ∈ front ++ back, y.req.isRecall = false) →
        exec (.recall src b m) s = .next { reported 2 old with
          mem := { s.mem with queue := e :: front ++ back ++ [⟨.recallRead slot m, false⟩] } }) ∧
      (s.mem.status = .present → 4 ≤ s.mem.queue.length →
        (s.mem.waitingRecall = none → exec (.recall src b m) s = .next (reported 2 slot)) ∧
        exec (.store src b) s = .next (reported 3 slot)))

/-- MORPH_STEP (R151): the record whose step is due first and every record of its start time take one step to
a + trunc((t − a) × j ÷ m), ending at step m; the other parameters stay; no voice record or gate changes.
An event that ends a timer or an interval moves the clock to that end: the model's choice of log 3. The stamps are milliseconds (log 21). -/
def Obligations.MorphStepMovesGroup : Prop :=
  ∀ (s : State) (q : Fin 16) (r : Morph), Settled s → s.live[q].morph = some r →
    (∀ p : Fin 16, ∀ m, s.live[p].morph = some m → r.due < m.due ∨ (r.due = m.due ∧ q ≤ p)) →
    ∃ t, exec .morphStep s = .next t ∧ t.now = max s.now (r.due * 1000) ∧
      (∀ p : Fin 16, ∀ m, s.live[p].morph = some m → m.startTime = r.startTime →
        t.live[p].value = ((m.start : Int) + (((m.target : Int) - m.start) * (m.made + 1 : Nat)).tdiv m.count).toNat ∧
        t.live[p].morph = if m.made + 1 = m.count then none else some { m with made := m.made + 1 }) ∧
      (∀ p : Fin 16, (∀ m, s.live[p].morph = some m → m.startTime ≠ r.startTime) → t.live[p] = s.live[p]) ∧
      t.voices = s.voices ∧ t.gates = s.gates ∧ t.sources = s.sources ∧ t.mem = s.mem ∧ t.eeprom = s.eeprom

/-! ### Station frames -/

/-- The own HELLO taken in ANNOUNCE (R31): without a Setup the station awaits one for 300 ms; with one it enters RUNNING when the
start-up loads are done and LOADING otherwise. -/
def Obligations.OwnHelloEndsAnnounce : Prop :=
  ∀ (s : State) (e : TxEntry) (a b c d : Byte), Settled s → OnLine s e → e.frame = .hello a b c d → e.followOn = none →
    s.start.phase = .announce → s.start.fault ≠ .silent →
    exec .ownFrameTaken s = exec (.hello .own a b c d) s ∧
    (s.start.frozen = false →
      exec (.hello .own a b c d) s = .next { s with
        start := { s.start with phase := .awaitSetup, setupTimer := some (s.now + 300000) }
        link := { s.link with
          place := .closed s.now (e.sent s).closingRun, consecutive := 0
          queue := s.link.queue.filter fun x => x.order != e.order } }) ∧
    (s.start.frozen = true →
      ∃ t, exec (.hello .own a b c d) s = .next t ∧
        (s.start.loadsDone = true → t.start.phase = .running) ∧
        (s.start.loadsDone = false → t.start.phase = .loading) ∧
        t.live = s.live ∧ t.calib = s.calib ∧ t.gates = s.gates ∧ t.eeprom = s.eeprom)

/-- HELLO of another transmitter (R30, R33, R34, R56, R178): with the station's own ID it raises DUP-ID with detail 0 in any phase
from LISTEN on; another station's, in RUNNING, clears that source's sustain and bend, ends its pending claims (in NORMAL) and its
offline pairs, and releases its voices; before RUNNING it does nothing. That a Hello with the station's own ID has none of the effects of
R33 in RUNNING is the model's choice of log 39 (DEDUCED). -/
def Obligations.HelloOfAnotherTransmitter : Prop :=
  ∀ (s : State) (src : Station) (a b c d : Byte), Settled s → ClaimLaw s → canReceive s = true → dispatching s = true →
    s.link.queue.length < 16 →
    (src = stationId s →
      ∃ t, exec (.hello (.line src) a b c d) s = .next t ∧ t.start.fault = .silent ∧
        t.start.silencing = some (.dupId, 0) ∧ t.start.phase = s.start.phase ∧ t.link.queue = [] ∧
        (∀ u : VoiceIdx, t.gates[u] = false) ∧ t.claims = [] ∧ t.calib = s.calib ∧ t.live = s.live) ∧
    (src ≠ stationId s → s.start.phase = .running →
      ∃ t, exec (.hello (.line src) a b c d) s = .next t ∧
        t.sources = updAt s.sources src (fun _ => ⟨false, 0⟩) ∧
        (playing s = true → t.claims = s.claims.filter fun x => x.ident.source != src) ∧
        (∀ u : VoiceIdx, served s u = true → t.voices[u].isOf src = true → t.voices[u].state.playsNote = false) ∧
        (∀ p ∈ t.tune.offline, p.1 ≠ src) ∧ t.calib = s.calib ∧ t.live = s.live ∧ t.eeprom = s.eeprom ∧ t.start = s.start) ∧
    (src ≠ stationId s → s.start.phase ≠ .running →
      exec (.hello (.line src) a b c d) s = .next { s with link := { s.link with place := .inPlace s.now } })

/-- SETUP (R35): the first one taken in LISTEN, ANNOUNCE or AWAIT-SETUP is accepted and freezes the four values as clamped; in
LISTEN and ANNOUNCE the phase stays, in AWAIT-SETUP the setup timer stops and the join goes on; every other Setup changes
nothing. -/
def Obligations.SetupIsAcceptedOnce : Prop :=
  ∀ (s : State) (src : Station) (p l k i : Byte), Settled s → canReceive s = true →
    ((s.start.frozen = true ∨ s.start.phase = .loading ∨ s.start.phase = .running) →
      exec (.setup src p l k i) s = .next { s with link := { s.link with place := .inPlace s.now } }) ∧
    (s.start.frozen = false → s.start.fault ≠ .silent →
      (s.start.phase = .listen ∨ s.start.phase = .announce ∨ s.start.phase = .awaitSetup) →
      ∃ t, exec (.setup src p l k i) s = .next t ∧ t.start.frozen = true ∧
        t.start.pickup = (if p = 1 then .catch else if p = 2 then .relative else .jump) ∧
        t.start.limit = (if l = 0 then 1 else if 8 < l.toNat then 8 else l.toNat) ∧
        t.start.steal = (if k = 1 then .none else .oldest) ∧
        t.start.initialPatch.val = (if 63 < i.toNat then 0 else i.toNat) ∧
        (s.start.phase ≠ .awaitSetup → t.start.phase = s.start.phase ∧ t.start.setupTimer = s.start.setupTimer ∧
          t.link = { s.link with place := .inPlace s.now } ∧ t.mem = s.mem ∧ t.panel = s.panel) ∧
        (s.start.phase = .awaitSetup → t.start.setupTimer = none ∧
          t.start.phase = (if s.start.loadsDone then .running else .loading)) ∧
        t.gates = s.gates ∧ t.live = s.live ∧ t.calib = s.calib ∧ t.eeprom = s.eeprom)

/-- QUERY (R17, R198): its target answers with one Report, or for CALIB two, built from the state of the moment and queued in
order; any other station, any Query in LISTEN, and a HEALTH or CALIB Query whose subject names no voice or oscillator of the station
change nothing. -/
def Obligations.QueryIsAnsweredByTarget : Prop :=
  ∀ (s : State) (src tgt : Station) (item : QueryItem) (sub : Byte), Settled s → canReceive s = true →
    ((tgt ≠ stationId s ∨ s.start.phase = .listen) →
      exec (.query src tgt item sub) s = .next { s with link := { s.link with place := .inPlace s.now } }) ∧
    (tgt = stationId s → dispatching s = true → s.start.phase ≠ .listen → s.link.queue.length < 15 →
      (exec (.query src tgt .identity sub) s = .next { s with
        link := enterFrame (.report .identity sub
            [byteOf (stationId s).val, 0x6D, 1, byteOf s.start.voiceCount.val, flagsByte s.start, s.start.phase.code,
              s.start.fault.code])
          (14336 + (stationId s).val) { s.link with place := .inPlace s.now } }) ∧
      (exec (.query src tgt .counters sub) s = .next { s with
        link := enterFrame (.report .counters sub (s.link.counters.toList.flatMap twoBytes))
          (14336 + (stationId s).val) { s.link with place := .inPlace s.now } }) ∧
      (∀ u : VoiceIdx, sub.toNat = u.val → served s u = true →
        exec (.query src tgt .health sub) s = .next { s with
          link := enterFrame (.report .health sub
              [s.voices[u].state.code, flagByte s.calib[u].calibrated, byteOf s.calib[u].failures.val,
                hiByte s.calib[u].drift, loByte s.calib[u].drift, s.calib[u].outcome.code, flagByte s.glides[u].clamp])
            (14336 + (stationId s).val) { s.link with place := .inPlace s.now } }) ∧
      (∀ u : VoiceIdx, sub.toNat = 16 + u.val → served s u = true →
        exec (.query src tgt .calib sub) s = .next { s with
          link := enterFrame (.report .calibB sub ((s.calib[u].osc1.toList.drop 6).flatMap twoBytes)) (14336 + (stationId s).val)
            (enterFrame (.report .calibA sub ((s.calib[u].osc1.toList.take 6).flatMap twoBytes)) (14336 + (stationId s).val)
              { s.link with place := .inPlace s.now }) }) ∧
      (∀ u : VoiceIdx, sub.toNat = 32 + u.val → served s u = true →
        exec (.query src tgt .calib sub) s = .next { s with
          link := enterFrame (.report .calibB sub ((s.calib[u].osc2.toList.drop 6).flatMap twoBytes)) (14336 + (stationId s).val)
            (enterFrame (.report .calibA sub ((s.calib[u].osc2.toList.take 6).flatMap twoBytes)) (14336 + (stationId s).val)
              { s.link with place := .inPlace s.now }) })) ∧
    ((∀ u : VoiceIdx, served s u = true → sub.toNat ≠ u.val) →
      exec (.query src tgt .health sub) s = .next { s with link := { s.link with place := .inPlace s.now } }) ∧
    ((∀ u : VoiceIdx, served s u = true → sub.toNat ≠ 16 + u.val ∧ sub.toNat ≠ 32 + u.val) →
      exec (.query src tgt .calib sub) s = .next { s with link := { s.link with place := .inPlace s.now } })

/-- RESTART (R17, R26, R40, R170): aimed at the station it is acted on in every phase from LISTEN on, in SILENT too; aimed at
another station it changes nothing. -/
def Obligations.RestartRejoins : Prop :=
  ∀ (s : State) (src tgt : Station), canReceive s = true →
    (tgt ≠ stationId s → Settled s →
      exec (.restart src tgt) s = .next { s with link := { s.link with place := .inPlace s.now } }) ∧
    (tgt = stationId s → s.start.phase.joined = true →
      ∃ t, exec (.restart src tgt) s = .next t ∧
        t.start = { s.start with frozen := false, phase := .listen, listenTimer := some (s.now + 30000), setupTimer := none
                                 load := .none, fault := .normal } ∧
        (∀ u : VoiceIdx, t.gates[u] = false ∧ t.voices[u].ident = none ∧ t.voices[u].offPending = false ∧
          t.voices[u].nominated = false ∧ t.voices[u].gapTimer = none ∧ t.voices[u].minGateTimer = none ∧
          t.voices[u].releaseTimer = none ∧ t.voices[u].lastNote = s.voices[u].lastNote ∧
          t.voices[u].velocity = s.voices[u].velocity ∧ t.glides[u].pg = s.glides[u].pg ∧ t.glides[u].timer = none ∧
          t.voices[u].state = (if s.calib[u].failures = 2 then .retired else .idle)) ∧
        t.claims = [] ∧ (∀ i : Station, t.sources[i] = ⟨false, 0⟩) ∧
        t.link = { s.link with place := .inPlace s.now, queue := [], consecutive := 0, notices := [] } ∧
        t.tune = Tune.reset ∧ t.sched.timeouts = 0 ∧ t.sched.stopped = false ∧
        (∀ p : Fin 16, t.live[p] =
          ⟨match s.live[p].morph with | some m => m.target | none => s.live[p].value, none⟩) ∧
        t.mem.status = s.mem.status ∧ t.mem.unstarted = [] ∧ t.panel = Panel.reset ∧
        t.calib = s.calib ∧ t.eeprom = s.eeprom)

/-! ### Tune frames -/

/-- TUNE_REQUEST (R172 to R174): a frame that does not name the station changes nothing. While the sequencer is at work, the list
grows by the voices named that are the station's and not TUNING. From an idle sequencer, the lowest of them that is free goes to
TUNE-WAIT at once, with its Tune-Begin queued, when the offline set is below the limit. -/
def Obligations.TuneRequestListsVoices : Prop :=
  ∀ (s : State) (src : Station) (st mask : Byte), Settled s → canReceive s = true →
    ((playing s = false ∨ st.getLsbD (stationId s).val = false) →
      exec (.tuneRequest src st mask) s = .next { s with link := { s.link with place := .inPlace s.now } }) ∧
    (playing s = true → st.getLsbD (stationId s).val = true → s.tune.seq ≠ .idle →
      exec (.tuneRequest src st mask) s = .next { s with
        link := { s.link with place := .inPlace s.now }
        tune := { s.tune with list := (List.finRange 6).filter fun u =>
          s.tune.list.contains u || (mask.getLsbD u.val && served s u && s.voices[u].state != .tuning) } }) ∧
    (∀ w : VoiceIdx, playing s = true → st.getLsbD (stationId s).val = true → s.tune.seq = .idle → s.tune.list = [] →
      s.tune.offline.length < s.start.limit → s.link.queue.length < 16 →
      mask.getLsbD w.val = true → served s w = true → qualifies s w = true →
      (∀ v : VoiceIdx, v < w → ¬ (mask.getLsbD v.val = true ∧ served s v = true ∧ qualifies s v = true)) →
      ∃ t, exec (.tuneRequest src st mask) s = .next t ∧ t.tune.seq = .waitSlot ∧ t.tune.voice = some w ∧ w ∈ t.tune.list ∧
        t.voices[w].state = .tuneWait ∧ t.voices[w].ident = none ∧ (∀ v : VoiceIdx, v ≠ w → t.voices[v] = s.voices[v]) ∧
        t.link.queue = insertEntry ⟨.tuneBegin w false, 4096 + w.val * 8 + (stationId s).val, .tune, s.link.nextOrder, false,
          false, none⟩ s.link.queue ∧
        t.gates = s.gates ∧ t.claims = s.claims ∧ t.calib = s.calib ∧ t.eeprom = s.eeprom)

/-- TUNE_BEGIN (R175, R176): any station's adds its pair to the offline set, and another station's does nothing more; the own one
for the voice in TUNE-WAIT also starts the measurement at oscillator 1, breakpoint 1, pass 1, with working copies of the committed
tables and TSEL at 2w. -/
def Obligations.TuneBeginTakesVoiceOut : Prop :=
  ∀ (s : State) (w : VoiceIdx), Settled s → following s = true →
    (∀ src r, canReceive s = true →
      exec (.tuneBegin (.line src) w r) s = .next { s with
        link := { s.link with place := .inPlace s.now }
        tune := { s.tune with offline := if s.tune.offline.contains (src, w) then s.tune.offline
                                         else s.tune.offline ++ [(src, w)] } }) ∧
    (∀ e, OnLine s e → e.frame = .tuneBegin w false → e.followOn = none → s.tune.seq = .waitSlot → s.tune.voice = some w →
      s.voices[w].state = .tuneWait →
      exec .ownFrameTaken s = exec (.tuneBegin .own w false) s ∧
      ∃ t, exec (.tuneBegin .own w false) s = .next t ∧ t.voices = updAt s.voices w (fun v => { v with state := .tuning }) ∧
        t.tune.seq = .measure ∧ t.tune.voice = some w ∧ w ∉ t.tune.list ∧ (stationId s, w) ∈ t.tune.offline ∧
        t.tune.work = some ⟨s.calib[w].osc1, s.calib[w].osc2, .osc1, 1, 1⟩ ∧ t.pins.tsel = BitVec.ofNat 4 (2 * w.val) ∧
        t.calib = s.calib ∧ t.gates = s.gates ∧ t.claims = s.claims ∧ t.eeprom = s.eeprom)

/-- TUNE_END (R177): another station's removes its pair and wakes a sequencer in WAIT-SLOT without a voice; the own one, awaited in
END-WAIT, also ends the tune. The sequencer then looks at its list (R173): with no voice listed it goes idle, with none that qualifies
it rests in SELECT, and otherwise the lowest that qualifies goes to TUNE-WAIT with its Tune-Begin queued, when the offline set is below
the limit (R174). A sequencer that rests in SELECT does the same at the event that lets a listed voice qualify: here, its release
timer. A Tune-End lost by a collision is handed over again (R23, R188).
An event that ends a timer or an interval moves the clock to that end: the model's choice of log 3. -/
def Obligations.TuneEndReturnsVoice : Prop :=
  (∀ (s : State) (w : VoiceIdx) (o : TuneOutcome) (d : Byte), Settled s → following s = true →
    let woken (src : Station) (q : SeqState) : State := { s with
      link := { s.link with place := .inPlace s.now }
      tune := { s.tune with offline := s.tune.offline.filter (fun p => p != (src, w)), seq := q } }
    let ended (e : TxEntry) (q : SeqState) : State := { s with
      link := { s.link with
        place := .closed s.now (e.sent s).closingRun, consecutive := 0
        queue := s.link.queue.filter fun x => x.order != e.order }
      tune := { s.tune with offline := s.tune.offline.filter (fun p => p != (stationId s, w)), seq := q
                            voice := none, result := none } }
    (∀ src, canReceive s = true → src ≠ stationId s → (s.tune.seq = .waitSlot → s.tune.voice ≠ none) →
      exec (.tuneEnd (.line src) w o d) s = .next (woken src s.tune.seq)) ∧
    (∀ src, canReceive s = true → src ≠ stationId s → s.tune.seq = .waitSlot → s.tune.voice = none →
      (src, w) ∈ s.tune.offline →
      (s.tune.list = [] → exec (.tuneEnd (.line src) w o d) s = .next (woken src .idle)) ∧
      (s.tune.list ≠ [] → (∀ v ∈ s.tune.list, qualifies s v = false) →
        exec (.tuneEnd (.line src) w o d) s = .next (woken src .select)) ∧
      (∀ v, LowestQualifies s v → (woken src .select).tune.offline.length < s.start.limit → s.link.queue.length < 16 →
        ∃ t, exec (.tuneEnd (.line src) w o d) s = .next t ∧ TuneChosen s t v ∧
          t.tune.offline = (woken src .select).tune.offline ∧ t.link.place = .inPlace s.now)) ∧
    (∀ e, OnLine s e → e.frame = .tuneEnd w o d → e.followOn = none → s.tune.seq = .endWait → s.tune.voice = some w →
      exec .ownFrameTaken s = exec (.tuneEnd .own w o d) s ∧
      (s.tune.list = [] → exec (.tuneEnd .own w o d) s = .next (ended e .idle)) ∧
      (s.tune.list ≠ [] → (∀ v ∈ s.tune.list, qualifies s v = false) →
        exec (.tuneEnd .own w o d) s = .next (ended e .select)) ∧
      (∀ v, LowestQualifies s v → (ended e .select).tune.offline.length < s.start.limit → s.link.queue.length < 16 →
        ∃ t, exec (.tuneEnd .own w o d) s = .next t ∧ TuneChosen s t v ∧
          t.tune.offline = (ended e .select).tune.offline ∧ t.tune.result = none))) ∧
  (∀ (s : State) (u : VoiceIdx) (d : Nat), Quiet s → s.tune.seq = .select → s.voices[u].state = .releasing →
    s.voices[u].releaseTimer = some d →
    let idle : State := { s with
      now := max s.now d
      voices := updAt s.voices u fun v => { v with
        state := .idle, ident := none, idleSince := some (max s.now d / 1000), releaseTimer := none } }
    (LowestQualifies idle u → s.tune.offline.length < s.start.limit → s.link.queue.length < 16 →
      ∃ t, exec (.releaseTimerExpiry u) s = .next t ∧ TuneChosen idle t u) ∧
    (LowestQualifies idle u → s.start.limit ≤ s.tune.offline.length →
      exec (.releaseTimerExpiry u) s = .next { idle with tune := { s.tune with seq := .waitSlot, voice := none } }) ∧
    (s.tune.list ≠ [] → (∀ v ∈ s.tune.list, qualifies idle v = false) → exec (.releaseTimerExpiry u) s = .next idle)) ∧
  (∀ (s : State) (e : TxEntry) (w : VoiceIdx) (o : TuneOutcome) (d : Byte), Settled s → OnLine s e → e.frame = .tuneEnd w o d →
    e.withdrawn = false → e.followOn = none → s.link.consecutive < 2 → txEnabled s = true → s.link.queue.length ≤ 16 →
    s.tune.seq = .endWait → s.tune.voice = some w →
    ∃ t, exec .collision s = .next t ∧ t.tune = s.tune ∧ t.voices = s.voices ∧ t.start = s.start ∧ t.link.notices = [] ∧
      t.link.queue = insertEntry ⟨.tuneEnd w o d, 4096 + w.val * 8 + (stationId s).val, .tune, s.link.nextOrder, false, false,
        none⟩ (s.link.queue.filter fun x => x.order != e.order))

/-- TUNE_STOP (R189): the list is cleared; in SELECT and in WAIT-SLOT without a voice the sequencer goes idle; in WAIT-SLOT with a voice
its Tune-Begin is withdrawn and it returns to its prior state; in IDLE, COMMIT and END-WAIT nothing more happens; a tune in MEASURE is
stopped: the calibration state stays, the voice returns to its prior state, and a Tune-End (ABORTED) with the pass's detail is queued.
A Tune-Begin lost by a collision (R23): the voice that waited for it returns to its prior state, and the sequencer looks at its list at
once (R174); a lost refresh is queued again while the voice is TUNING (R179). -/
def Obligations.TuneStopEndsMeasurement : Prop :=
  (∀ (s : State) (src : Station), Quiet s → canReceive s = true → following s = true →
    ((s.tune.seq = .idle ∨ s.tune.seq = .commit ∨ s.tune.seq = .endWait) →
      exec (.tuneStop src) s = .next { s with
        link := { s.link with place := .inPlace s.now }, tune := { s.tune with list := [] } }) ∧
    ((s.tune.seq = .select ∨ (s.tune.seq = .waitSlot ∧ s.tune.voice = none)) →
      exec (.tuneStop src) s = .next { s with
        link := { s.link with place := .inPlace s.now }
        tune := { s.tune with list := [], seq := .idle, voice := none, result := none } }) ∧
    (∀ w, s.tune.seq = .waitSlot → s.tune.voice = some w → s.voices[w].state = .tuneWait → QueueLaw s →
      ∃ t, exec (.tuneStop src) s = .next t ∧
        t.tune = { s.tune with list := [], seq := .idle, voice := none, result := none } ∧
        t.voices[w].state = priorState s w ∧ (∀ v : VoiceIdx, v ≠ w → t.voices[v] = s.voices[v]) ∧
        t.link = { s.link with
          place := .inPlace s.now, queue := s.link.queue.filter fun e => !isTuneBegin w false e.frame } ∧
        t.gates = s.gates ∧ t.claims = s.claims ∧ t.calib = s.calib ∧ t.mem = s.mem ∧ t.eeprom = s.eeprom) ∧
    (∀ u w, s.tune.seq = .measure → s.tune.voice = some u → s.tune.work = some w → s.voices[u].state = .tuning →
      s.link.queue.length < 16 →
      ∃ t, exec (.tuneStop src) s = .next t ∧ t.tune.seq = .endWait ∧ t.tune.voice = some u ∧ t.tune.list = [] ∧
        t.tune.work = none ∧ t.tune.counter = .idle ∧ t.tune.settleTimer = none ∧ t.tune.refreshTimer = none ∧
        t.tune.result = some (.aborted, byteOf (16 * w.osc.num + w.k)) ∧ t.pins.tsel = 0 ∧ t.calib = s.calib ∧
        t.voices[u].state = priorState s u ∧
        (∀ v : VoiceIdx, v ≠ u → t.voices[v] = s.voices[v]) ∧
        (∃ e ∈ t.link.queue, e.frame = .tuneEnd u .aborted (byteOf (16 * w.osc.num + w.k))) ∧
        t.gates = s.gates ∧ t.claims = s.claims ∧ t.mem = s.mem ∧ t.eeprom = s.eeprom)) ∧
  (∀ (s : State) (e : TxEntry) (w : VoiceIdx) (r : Bool), Settled s → OnLine s e → e.frame = .tuneBegin w r →
    e.withdrawn = false → e.followOn = none → s.link.consecutive < 2 → txEnabled s = true → s.link.queue.length ≤ 16 →
    (r = false → s.tune.seq = .waitSlot → s.tune.voice = some w → s.voices[w].state = .tuneWait →
      (s.start.limit ≤ s.tune.offline.length → w ∈ s.tune.list → s.voices[w].nominated = false →
        ∃ t, exec .collision s = .next t ∧ t.tune = { s.tune with seq := .waitSlot, voice := none, result := none } ∧
          t.voices[w].state = priorState s w ∧ (∀ v : VoiceIdx, v ≠ w → t.voices[v] = s.voices[v]) ∧
          t.link.queue = s.link.queue.filter (fun x => x.order != e.order)) ∧
      (s.tune.offline.length < s.start.limit →
        LowestQualifies { s with voices := updAt s.voices w fun v => { v with state := priorState s w } } w →
        ∃ t, exec .collision s = .next t ∧ TuneChosen s t w)) ∧
    (r = true → s.tune.voice = some w → s.voices[w].state = .tuning → s.tune.refreshMark = true →
      ∃ t, exec .collision s = .next t ∧ t.tune = s.tune ∧ t.voices = s.voices ∧
        t.link.queue = insertEntry ⟨.tuneBegin w true, 4096 + w.val * 8 + (stationId s).val, .tune, s.link.nextOrder, false,
          false, none⟩ (s.link.queue.filter fun x => x.order != e.order)))

/-! ### Voice timers and pitch -/

/-- GAP_TIMER_EXPIRY (R49): the gap-run flag is set; with both writes done, RUNNING and NORMAL, GATING ends: HELD with the gate
high, and the minimum gate runs if a Note-Off was recorded. MINIMUM_GATE_EXPIRY (R51, R61): in every fault state the recorded
Note-Off of a HELD voice takes it to SUSTAINED or to RELEASING by the sustain of its source at that moment, and the off-pending
flag is cleared; RELHOLD at 0 is left out.
An event that ends a timer or an interval moves the clock to that end: the model's choice of log 3. That the end of GATING also needs
phase RUNNING, where R49 names NORMAL only, is its reading of log 28. -/
def Obligations.GateTimersAct : Prop :=
  (
  ∀ (s : State) (u : VoiceIdx) (d : Nat), Settled s → s.voices[u].gapTimer = some d →
    ((playing s = true ∧ served s u = true ∧ s.voices[u].state = .gating ∧ s.voices[u].doneP1 = true ∧
        s.voices[u].doneP2 = true) →
      exec (.gapTimerExpiry u) s = .next { s with
        now := max s.now d
        gates := updAt s.gates u fun _ => true
        voices := updAt s.voices u fun v => { v with
          state := .held, gapTimer := none, gapRun := true
          minGateTimer := if v.offPending then some (max s.now d + 2000) else v.minGateTimer } }) ∧
    (¬ (playing s = true ∧ served s u = true ∧ s.voices[u].state = .gating ∧ s.voices[u].doneP1 = true ∧
        s.voices[u].doneP2 = true) →
      exec (.gapTimerExpiry u) s = .next { s with
        now := max s.now d, voices := updAt s.voices u fun v => { v with gapTimer := none, gapRun := true } })) ∧
  (
  ∀ (s : State) (u : VoiceIdx) (d : Nat) (i : Ident), Settled s → s.voices[u].minGateTimer = some d →
    s.voices[u].state = .held → s.voices[u].ident = some i → (s.live[(13 : Fin 16)]).value ≠ 0 →
    (s.sources[i.source].sustain = true →
      exec (.minimumGateExpiry u) s = .next { s with
        now := max s.now d
        voices := updAt s.voices u fun v => { v with state := .sustained, minGateTimer := none, offPending := false } }) ∧
    (s.sources[i.source].sustain = false →
      ∃ t, exec (.minimumGateExpiry u) s = .next t ∧ t.voices[u].state = .releasing ∧ t.voices[u].ident = some i ∧
        t.voices[u].offPending = false ∧ t.gates[u] = false ∧
        t.voices[u].releaseTimer = some (max s.now d + (s.live[(13 : Fin 16)]).value * 8000) ∧
        (∀ v : VoiceIdx, v ≠ u → t.voices[v] = s.voices[v] ∧ t.gates[v] = s.gates[v]) ∧
        t = { s with now := max s.now d, voices := t.voices, gates := t.gates, slots := t.slots }))

/-- RELEASE_TIMER_EXPIRY (R55): the RELEASING voice becomes IDLE, its identity is absent and idle-since is the present time; last
note and velocity are kept; in every fault state. An expiry commanded before the timer's end moves the clock to that end: the model's
choice of log 3 (DESIGN CHOICE); one commanded late is left out. -/
def Obligations.ReleaseExpiryIdlesVoice : Prop :=
  ∀ (s : State) (u : VoiceIdx) (d : Nat), Settled s → s.voices[u].releaseTimer = some d → s.now ≤ d →
    s.voices[u].state = .releasing →
    exec (.releaseTimerExpiry u) s = .next { s with
      now := d
      voices := updAt s.voices u fun v => { v with
        state := .idle, ident := none, idleSince := some (d / 1000), releaseTimer := none } }

/-- CLAIM_TIMEOUT (R72): off the line, the frame and the entry are removed, the voice is no longer nominated, and the
claim-timeout counter rises; on the line, the frame is marked withdrawn and the entry expired, and nothing is counted yet.
An event that ends a timer or an interval moves the clock to that end: the model's choice of log 3. -/
def Obligations.ClaimTimeoutEndsEntry : Prop :=
  ∀ (s : State) (c : Claim), Settled s → ClaimLaw s → c ∈ s.claims → c.expired = false →
    (claimOnLine c.ident s = false →
      ∃ t, exec (.claimTimeout c.ident.source c.ident.note) s = .next t ∧ t.now = max s.now c.timer ∧
        t.claims = s.claims.filter (fun x => x.ident != c.ident) ∧
        t.voices = updAt s.voices c.voice (fun v => { v with nominated := false }) ∧
        t.link.queue = s.link.queue.filter (fun e => !isClaimFor c.ident e.frame) ∧
        t.link.counters = s.link.counters.addClaimTimeout ∧ t.gates = s.gates ∧ t.tune = s.tune ∧ t.slots = s.slots) ∧
    (claimOnLine c.ident s = true →
      ∃ t, exec (.claimTimeout c.ident.source c.ident.note) s = .next t ∧ t.now = max s.now c.timer ∧
        t.claims = s.claims.map (fun x => if x.ident = c.ident then { x with expired := true } else x) ∧
        t.voices = s.voices ∧ t.link.counters = s.link.counters ∧
        (∀ e ∈ t.link.queue, isClaimFor c.ident e.frame = true → e.withdrawn = true) ∧ t.gates = s.gates ∧ t.slots = s.slots)

/-- GLIDE_STEP (R93): Pg moves by floor(65536 ÷ g²) toward Pt and not past it, at g = 0 straight to it; the timer stops when they
meet and else runs 1 ms more; P1, P2 and CUT are recomputed for a voice that is computed; no voice record, gate or live value changes.
An event that ends a timer or an interval moves the clock to that end: the model's choice of log 3. The next step is due 1 ms after the
timer's end (log 22). -/
def Obligations.GlideStepMovesPitch : Prop :=
  ∀ (s : State) (u : VoiceIdx) (d : Nat), Settled s → s.glides[u].timer = some d →
    ∃ t, exec (.glideStep u) s = .next t ∧ t.now = max s.now d ∧ t.glides[u].pt = s.glides[u].pt ∧
      t.glides[u].pg = (let g := (s.live[(9 : Fin 16)]).value / 8
        let pg := s.glides[u].pg
        let pt := s.glides[u].pt
        if g = 0 ∨ (pt - pg).natAbs ≤ 65536 / (g * g) then pt
        else if pg < pt then pg + (65536 / (g * g) : Nat) else pg - (65536 / (g * g) : Nat)) ∧
      (t.glides[u].timer = if t.glides[u].pg = t.glides[u].pt then none else some (d + 1000)) ∧
      (s.voices[u].state.computed = true → PortLaw s → ∀ c : Fin 8, c = 0 ∨ c = 1 ∨ c = 4 →
        t.slots[slotOf u c].reference = some (channelCode t u c)) ∧
      (∀ v : VoiceIdx, v ≠ u → t.glides[v] = s.glides[v]) ∧
      t.voices = s.voices ∧ t.gates = s.gates ∧ t.live = s.live ∧ t.calib = s.calib ∧ t.link = s.link ∧ t.tune = s.tune ∧
      t.mem = s.mem ∧ t.eeprom = s.eeprom

/-- The mapping of a clamped pitch to the codes of P1 and P2 (R95), by the committed tables of osc1 and osc2 and never by the Tune
Unit's working tables; at a breakpoint it gives the breakpoint code. -/
def Obligations.PitchIsMapped : Prop :=
  (∀ (t : CalTable) (p : Nat), p ≤ 32767 →
    let k := min (p / 3072) 9
    let f := p - 3072 * k
    let d : Int := (tabAt t (k + 1)).toNat - (tabAt t k).toNat
    ((pitchCode t p).toNat : Int) = max 0 (min 65535 ((tabAt t k).toNat + (d * f + 1536) / 3072))) ∧
  (∀ (t : CalTable) (k : Fin 10), pitchCode t (3072 * k.val) = tabAt t k.val) ∧
  (∀ (s : State) (u : VoiceIdx) (w : Option TuneWork),
    channelCode s u 0 = pitchCode s.calib[u].osc1 (clampPitch (rawP1 s u)).toNat ∧
    channelCode s u 1 = pitchCode s.calib[u].osc2 (clampPitch (rawP2 s u)).toNat ∧
    (∀ c : Fin 8, channelCode { s with tune := { s.tune with work := w } } u c = channelCode s u c))

/-! ### The CV port -/

/-- The choice of the next write (R112), among the slots of the station's voices: of the slots written 3.5 ms ago or more the one
written longest ago; without one a slot with a code pending in group U, and then one in group M, of the last bank if it has one; and
then of the slots written 2 ms ago or more without a pending code the one written longest ago; equal choices by the lowest slot number.
No slot is chosen exactly when none is a candidate. -/
def Obligations.SelectionFollowsTiers : Prop :=
  ∀ s : State,
    let written (age : Nat) (j : SlotIdx) : Prop :=
      served s (voiceOf j) = true ∧ ∃ w, s.slots[j].writtenAt = some w ∧ age ≤ s.now - w
    let waiting (g : Group) (j : SlotIdx) : Prop := served s (voiceOf j) = true ∧ ∃ p, s.slots[j].pending = some p ∧ p.group = g
    let routine (j : SlotIdx) : Prop := written 2000 j ∧ s.slots[j].pending = none
    let oldest (tier : SlotIdx → Prop) (i : SlotIdx) : Prop :=
      tier i ∧ ∀ j v w, tier j → s.slots[i].writtenAt = some v → s.slots[j].writtenAt = some w → v < w ∨ (v = w ∧ i ≤ j)
    let nearest (tier : SlotIdx → Prop) (i : SlotIdx) : Prop :=
      tier i ∧ ∀ j, tier j →
        (s.sched.lastBank = some (voiceOf i) ∧ (s.sched.lastBank = some (voiceOf j) → i ≤ j)) ∨
        (s.sched.lastBank ≠ some (voiceOf j) ∧ i ≤ j)
    let empty (tier : SlotIdx → Prop) : Prop := ∀ j, ¬ tier j
    (∀ i : SlotIdx, chosenSlot s = some i ↔
      (oldest (written 3500) i ∨
        (empty (written 3500) ∧ nearest (waiting .u) i) ∨
        (empty (written 3500) ∧ empty (waiting .u) ∧ nearest (waiting .m) i) ∨
        (empty (written 3500) ∧ empty (waiting .u) ∧ empty (waiting .m) ∧ oldest routine i))) ∧
    (chosenSlot s = none ↔ empty (written 3500) ∧ empty (waiting .u) ∧ empty (waiting .m) ∧ empty routine)

/-- SLOT_AGE_THRESHOLD (R112 to R114): an idle port of a running scheduler begins the write of the slot that the selection chooses
at the moment the age is reached, with a 2 µs gap when the bank changes and a 3 µs shift otherwise; a busy port goes on.
An event that ends a timer or an interval moves the clock to that end: the model's choice of log 3. -/
def Obligations.AgeThresholdBeginsWrite : Prop :=
  ∀ (s : State) (j : SlotIdx) (f : Bool) (w : Nat), s.slots[j].writtenAt = some w →
    (selecting s = true → s.sched.port = .idle →
      ∀ i, chosenSlot { s with now := max s.now (w + if f then 3500 else 2000) } = some i →
      ∃ t, exec (.slotAgeThreshold j f) s = .next t ∧ t.now = max s.now (w + if f then 3500 else 2000) ∧
        t.sched.port = (if s.sched.lastBank = some (voiceOf i) then .writing i .shift (t.now + 3)
          else .writing i .gap (t.now + 2)) ∧
        t.sched.lastBank = some (voiceOf i) ∧ t.pins.bsel = BitVec.ofNat 3 (i.val / 8) ∧
        t.pins.csel = BitVec.ofNat 3 (i.val % 8) ∧ t.pins.shen = false ∧ t.slots[i].pending = none ∧
        t.slots[i].inFlight.map Flight.code =
          ((s.slots[i].pending.map Pend.code <|> s.slots[i].lastWritten) <|> s.slots[i].inFlight.map Flight.code) ∧
        (∀ k : SlotIdx, k ≠ i → t.slots[k] = s.slots[k]) ∧ t.voices = s.voices ∧ t.gates = s.gates ∧ t.link = s.link) ∧
    (s.sched.port ≠ .idle → exec (.slotAgeThreshold j f) s =
      .next { s with now := max s.now (w + if f then 3500 else 2000) })

/-- The steps of a write (R107, R114): the gap is followed by the 3 µs shift, the shift by the ready wait of at most 20 µs or at once
by the acquire, and a high DRDY by the acquire of 12 µs for P1 and P2 and 6 µs for the others, with SHEN high. During the shift DDAT
shows the 16 bits of the in-flight code at the rising edges of DCLK, most significant first, and DLD pulses once after them.
WRITE_COMPLETE and HOLD_END (R115): the in-flight code becomes the last-written code at the present time, the timeout count returns to
0 and SHEN falls; after 1 µs the in-flight code is cleared, and the selection of R112 is made at that moment: without a candidate the
port stays idle, with one its write begins (R113).
An event that ends a timer or an interval moves the clock to that end: the model's choice of log 3. -/
def Obligations.WritesRunToTheirEnd : Prop :=
  (
  ∀ (s : State) (i : SlotIdx) (d : Nat),
    (s.sched.port = .writing i .gap d →
      exec .bankChangeGapEnd s = .next { s with
        now := max s.now d, sched := { s.sched with port := .writing i .shift (max s.now d + 3) } }) ∧
    (s.sched.port = .writing i .shift d →
      exec (.dldPulseEnd false) s = .next { s with
        now := max s.now d, sched := { s.sched with port := .writing i .ready (max s.now d + 20) } } ∧
      exec (.dldPulseEnd true) s = .next { s with
        now := max s.now d, pins := { s.pins with shen := true }
        sched := { s.sched with port := .writing i .acquire (max s.now d + if i.val % 8 < 2 then 12 else 6) } }) ∧
    (s.sched.port = .writing i .ready d →
      exec .drdyReady s = .next { s with
        pins := { s.pins with shen := true }
        sched := { s.sched with port := .writing i .acquire (s.now + if i.val % 8 < 2 then 12 else 6) } })) ∧
  (
  ∀ (s : State) (i : SlotIdx) (d : Nat),
    (∀ f, Settled s → s.sched.port = .writing i .acquire d → s.slots[i].inFlight = some f →
      ∃ t, exec .writeComplete s = .next t ∧ t.now = max s.now d ∧ t.slots[i].lastWritten = some f.code ∧
        t.slots[i].writtenAt = some t.now ∧ t.slots[i].pending = s.slots[i].pending ∧ t.sched.timeouts = 0 ∧
        t.sched.port = .writing i .hold (t.now + 1) ∧ t.pins.shen = false ∧
        (∀ k : SlotIdx, k ≠ i → t.slots[k] = s.slots[k]) ∧
        (f.assign = true → (if i.val % 8 = 0 then t.voices[voiceOf i].doneP1 else t.voices[voiceOf i].doneP2) = true) ∧
        (f.assign = false → t.voices = s.voices ∧ t.gates = s.gates) ∧
        (f.measure = true → s.tune.seq = .measure → s.tune.voice = some (voiceOf i) →
          t.tune.settleTimer = some (t.now + 5000)) ∧
        (f.measure = false → t.tune = s.tune) ∧ t.live = s.live ∧ t.link = s.link ∧ t.eeprom = s.eeprom) ∧
    (s.sched.port = .writing i .hold d →
      let freed : State := { s with
        now := max s.now d, sched := { s.sched with port := .idle }
        slots := updAt s.slots i fun sl => { sl with inFlight := none } }
      ((selecting s = false ∨ chosenSlot freed = none) → exec .holdEnd s = .next freed) ∧
      (∀ j, selecting s = true → chosenSlot freed = some j →
        ∃ t, exec .holdEnd s = .next t ∧ t.now = max s.now d ∧
          t.sched.port = (if s.sched.lastBank = some (voiceOf j) then .writing j .shift (t.now + 3)
            else .writing j .gap (t.now + 2)) ∧
          t.sched.lastBank = some (voiceOf j) ∧ t.pins.bsel = BitVec.ofNat 3 (j.val / 8) ∧
          t.pins.csel = BitVec.ofNat 3 (j.val % 8) ∧ t.pins.shen = false ∧ t.slots[j].pending = none ∧
          t.slots[j].inFlight.map Flight.code =
            ((freed.slots[j].pending.map Pend.code <|> freed.slots[j].lastWritten) <|> freed.slots[j].inFlight.map Flight.code) ∧
          (∀ k : SlotIdx, k ≠ j → t.slots[k] = freed.slots[k]) ∧ t.voices = s.voices ∧ t.gates = s.gates ∧ t.link = s.link ∧
          t.tune = s.tune ∧ t.live = s.live))) ∧
  (
  ∀ (s : State) (i : SlotIdx) (d : Nat) (f : Flight), s.sched.port = .writing i .shift d → s.slots[i].inFlight = some f →
    onRise false ((cvWave s).map fun x => (x.dclk, x.ddat)) = bitsMsb f.code ∧
    (cvWave s).map CvLevels.dld = List.replicate 32 false ++ [true, false])

/-- DRDY_TIMEOUT (R116, R117, R192 to R195): the write is abandoned without a completion. The in-flight code leaves its slot, merged
with the pending code or as the pending code again; the count rises; the port falls free and a selection is made. The third in a row
returns the count to 0 and raises DAC-STALL with the slot as detail. It mutes a station in NORMAL: every gate low, no claim pending, LVL
0 the last code of every voice and a Report FAULT queued, while the phase, the sources and the calibration stay. It silences a station
in MUTED: queue flushed, fault recorded, scheduler stopped and its pins low, and a frame of its own on the line breaks off after some bit
k, with the run of recessive bits counted from the last dominant bit of those read (R5, R7; which k is a free value, log 36).
An event that ends a timer or an interval moves the clock to that end: the model's choice of log 3. -/
def Obligations.DrdyTimeoutAbandonsWrite : Prop :=
  ∀ (s : State) (i : SlotIdx) (d : Nat) (f : Flight), Settled s → s.sched.port = .writing i .ready d →
    s.slots[i].inFlight = some f →
    (s.sched.timeouts < 2 →
      ∃ t x, exec .drdyTimeout s = .next t ∧ AbandonedSlot s.slots[i] f x ∧
        SelectionMade { s with
          now := max s.now d
          sched := { s.sched with port := .idle, timeouts := s.sched.timeouts + 1 }
          slots := updAt s.slots i fun _ => x } t) ∧
    (2 ≤ s.sched.timeouts → s.start.fault = .normal →
      ∃ t, exec .drdyTimeout s = .next t ∧ t.now = max s.now d ∧ t.sched.timeouts = 0 ∧
        t.start = { s.start with fault := .muted } ∧ (∀ u : VoiceIdx, t.gates[u] = false) ∧ t.claims = [] ∧
        t.sources = s.sources ∧ t.calib = s.calib ∧ t.live = s.live ∧ t.eeprom = s.eeprom ∧
        (s.tune.seq = .idle → s.link.queue.length < 16 → txEnabled s = true →
          (∃ e ∈ t.link.queue, e.frame = .report .fault 1 [byteOf i.val]) ∧
          ∃ u x, AbandonedSlot s.slots[i] f x ∧ SelectionMade u t ∧
            u.sched = { s.sched with port := .idle, timeouts := 0 } ∧
            (∀ k : SlotIdx, (k.val % 8 ≠ 7 ∨ served s (voiceOf k) = false) → u.slots[k] = if k = i then x else s.slots[k]) ∧
            (∀ v : VoiceIdx, served s v = true → u.slots[slotOf v 7].reference = some 0))) ∧
    (2 ≤ s.sched.timeouts → s.start.fault = .muted →
      ∃ t, exec .drdyTimeout s = .next t ∧ t.now = max s.now d ∧ t.start.fault = .silent ∧
        t.start.silencing = some (.dacStall, byteOf i.val) ∧ t.start.phase = s.start.phase ∧ t.link.queue = [] ∧
        (∀ u : VoiceIdx, t.gates[u] = false) ∧ t.claims = [] ∧
        t.sched = { s.sched with port := .idle, timeouts := 0, lastBank := none, stopped := true } ∧
        t.pins.shen = false ∧ t.pins.bsel = 0 ∧ t.pins.csel = 0 ∧
        (s.link.place ≠ .sending → t.link.place = s.link.place) ∧
        (∀ e, OnLine s e → ∃ k, 1 ≤ k ∧ k < (e.frame.raw (e.field / 8 % 256) (stationId s)).lineBits.length ∧
          t.link.place = .lost (t.now -
            2 * recessiveTail ((e.frame.raw (e.field / 8 % 256) (stationId s)).lineBits.take k))) ∧
        (s.tune.seq = .idle → ∃ x, AbandonedSlot s.slots[i] f x ∧ t.slots = updAt s.slots i fun _ => x) ∧
        t.sources = s.sources ∧ t.calib = s.calib ∧ t.live = s.live ∧ t.eeprom = s.eeprom)

/-! ### The memory port -/

/-- PROBE_COMPLETE in LOADING (R37, R38, R159): a status byte of 0xFF means no device, and the voices of the station are left with
their nominal tables as RUNNING is entered; any other byte means a device, and the reads are handed over in their order while the
queue has room, the first of them beginning at once.
An event that ends a timer or an interval moves the clock to that end: the model's choice of log 3. That a voice without memory also
has drift 0 and outcome OK, where R37 names its tables, its 0 failures and its status, is its reading of log 20. -/
def Obligations.ProbeDecidesMemory : Prop :=
  ∀ (s : State) (d : Nat) (b : Byte), Settled s → s.start.phase = .loading → s.start.load = .probing → s.mem.port = .probing d →
    s.mem.queue = [] → s.link.queue.length < 14 →
    (b = 0xFF →
      ∃ t, exec (.probeComplete b) s = .next t ∧ t.now = max s.now d ∧ t.mem = ⟨.absent, [], .idle⟩ ∧ t.pins.mcs = true ∧
        t.start.phase = .running ∧ t.start.loadsDone = true ∧ t.sched.started = true ∧
        (∀ u : VoiceIdx, served s u = true →
          t.calib[u] = ⟨nominalTable, nominalTable, false, 0, 0, .ok⟩ ∧ t.voices[u].state = .idle) ∧
        t.gates = s.gates ∧ t.live = s.live ∧ t.eeprom = s.eeprom ∧ t.claims = s.claims ∧ t.tune = s.tune) ∧
    (b ≠ 0xFF →
      let reads := ((List.finRange 6).filter (served s)).map MemReq.calRead ++ [.recallRead s.start.initialPatch 0]
      exec (.probeComplete b) s = .next { s with
        now := max s.now d
        start := { s.start with load := .reads (reads.drop 4) }
        mem := ⟨.present, (reads.take 4).map fun r => ⟨r, false⟩, .reading (max s.now d + 134)⟩
        pins := { s.pins with mcs := false } })

/-- PAGE_READ_COMPLETE (R38, R148, R149, R162, R163, R165): a valid calibration page becomes the calibration state of its voice, an
invalid one gives nominal tables and a Report CAL-INVALID, and the next request is served; a valid patch page recalled without a morph
sets every live value, and with one starts a morph for each parameter that differs; an empty slot and a bad one change no live value
and are reported. The last start-up read is applied without a morph and ends LOADING: each voice RETIRED at 2 failures and IDLE
otherwise, every channel posted with LVL 0 where it is forced (in a state with `PortLaw`, which every step keeps), the scheduler and
with the scan flag the scanner started, the phase RUNNING, and a silencing record reported (R100, R195).
An event that ends a timer or an interval moves the clock to that end: the model's choice of log 3. -/
def Obligations.PageReadsAreApplied : Prop :=
  ∀ (s : State) (d : Nat) (e : MemEntry) (rest : List MemEntry) (mdi : MdiPage), Settled s → s.mem.port = .reading d →
    s.mem.queue = e :: rest → e.discard = false → s.tune.seq ≠ .commit →
    (∀ (u : VoiceIdx) (c : Calib) (x : MemEntry) (more : List MemEntry), e.req = .calRead u → s.start.load = .reads [] →
      rest = x :: more → x.req.isWrite = false → judgeCal u (MdiPage.bytesOf (64 + u.val) s.eeprom mdi) = some c →
      exec (.pageReadComplete ⟨mdi, .none⟩) s = .next { s with
        now := max s.now d
        calib := updAt s.calib u fun _ => c
        mem := { s.mem with queue := rest, port := .reading (max s.now d + 134) }
        pins := { s.pins with mcs := false } }) ∧
    (∀ (u : VoiceIdx) (x : MemEntry) (more : List MemEntry), e.req = .calRead u → s.start.load = .reads [] → rest = x :: more →
      x.req.isWrite = false → judgeCal u (MdiPage.bytesOf (64 + u.val) s.eeprom mdi) = none → txEnabled s = true →
      s.link.queue.length < 16 →
      exec (.pageReadComplete ⟨mdi, .none⟩) s = .next { s with
        now := max s.now d
        calib := updAt s.calib u fun _ => ⟨nominalTable, nominalTable, false, 0, 0, .ok⟩
        mem := { s.mem with queue := rest, port := .reading (max s.now d + 134) }
        pins := { s.pins with mcs := false }
        link := enterFrame (.report .memory 6 [byteOf (64 + u.val)]) (14336 + (stationId s).val) s.link }) ∧
    (∀ (slot : PatchSlot) (m : Byte), e.req = .recallRead slot m → s.start.load = .none → s.start.phase = .running →
      s.start.fault ≠ .silent → rest = [] →
      (∀ v, judgePatch slot (MdiPage.bytesOf slot.val s.eeprom mdi) = .valid v →
        ∃ t, exec (.pageReadComplete ⟨mdi, .none⟩) s = .next t ∧ t.now = max s.now d ∧ t.mem = ⟨s.mem.status, [], .idle⟩ ∧
          t.pins.mcs = true ∧
          (m = 0 → ∀ p : Fin 16, t.live[p] = ⟨v[p], none⟩) ∧
          (m ≠ 0 → ∀ p : Fin 16, t.live[p] = (if s.live[p].value = v[p] then ⟨v[p], none⟩
            else ⟨s.live[p].value, some ⟨s.live[p].value, v[p], t.now / 1000, m.toNat, 0⟩⟩)) ∧
          t.voices = s.voices ∧ t.gates = s.gates ∧ t.sources = s.sources ∧ t.calib = s.calib ∧ t.tune = s.tune ∧
          t.eeprom = s.eeprom ∧ t.start = s.start) ∧
      (∀ code : Byte, (judgePatch slot (MdiPage.bytesOf slot.val s.eeprom mdi) = .empty ∧ code = 0) ∨
          (judgePatch slot (MdiPage.bytesOf slot.val s.eeprom mdi) = .bad ∧ code = 1) → s.link.queue.length < 16 →
        exec (.pageReadComplete ⟨mdi, .none⟩) s = .next { s with
          now := max s.now d
          mem := { s.mem with queue := [], port := .idle }
          pins := { s.pins with mcs := true }
          link := { s.link with
            queue := insertEntry ⟨.report .memory code [byteOf slot.val], 14336 + (stationId s).val, .report, s.link.nextOrder,
              false, false, none⟩ s.link.queue
            nextOrder := s.link.nextOrder + 1 } })) ∧
    (∀ (slot : PatchSlot) (m : Byte), e.req = .recallRead slot m → s.start.load = .reads [] → s.start.phase = .loading →
      s.start.fault ≠ .silent → rest = [] → s.link.queue.length < 15 →
      ∃ t, exec (.pageReadComplete ⟨mdi, .none⟩) s = .next t ∧ t.now = max s.now d ∧ t.mem = ⟨s.mem.status, [], .idle⟩ ∧
        t.pins.mcs = true ∧
        t.start = { s.start with phase := .running, loadsDone := true, load := .none, silencing := none } ∧
        t.sched.started = true ∧ (s.start.scan = true → t.panel.running = true ∧ t.pins.sd = 0xFE) ∧
        (∀ v, judgePatch slot (MdiPage.bytesOf slot.val s.eeprom mdi) = .valid v → ∀ p : Fin 16, t.live[p] = ⟨v[p], none⟩) ∧
        (judgePatch slot (MdiPage.bytesOf slot.val s.eeprom mdi) = .empty →
          t.live = s.live ∧ ∃ x ∈ t.link.queue, x.frame = .report .memory 0 [byteOf slot.val]) ∧
        (judgePatch slot (MdiPage.bytesOf slot.val s.eeprom mdi) = .bad →
          t.live = s.live ∧ ∃ x ∈ t.link.queue, x.frame = .report .memory 1 [byteOf slot.val]) ∧
        (∀ code detail, s.start.silencing = some (code, detail) →
          ∃ x ∈ t.link.queue, x.frame = .report .fault code.code [detail]) ∧
        (∀ u : VoiceIdx, served s u = true →
          t.voices[u].state = (if s.calib[u].failures = 2 then .retired else .idle) ∧
          t.voices[u].idleSince = some (t.now / 1000) ∧
          (PortLaw s → ∀ c : Fin 8, t.slots[slotOf u c].reference =
            some (if c = 7 ∧ (s.calib[u].failures = 2 ∨ s.start.fault ≠ .normal) then 0 else channelCode t u c))) ∧
        t.gates = s.gates ∧ t.calib = s.calib ∧ t.eeprom = s.eeprom ∧ t.claims = s.claims ∧ t.sources = s.sources ∧
        t.tune = s.tune)

/-- A page write (R162, R166, R167): after the write command MCS rises and the polls begin; a busy poll before the 120th waits for
the next; a ready one leaves the bytes of the request in its page and every other byte as it was; the 120th, still busy, is a memory
fault: FAILED, the queue empty, one Report, and no byte outside the page changed. When a held CAL-WRITE (R170) waits at a full queue, it
takes the freed place; a Store, or a Recall that replaces none, taken at the same moment that reaches the Memory Controller first takes
it instead, and the CAL-WRITE waits on (R162, R188). That the command carries the frame so taken as its operand is the model's choice of
log 34.
An event that ends a timer or an interval moves the clock to that end: the model's choice of log 3. -/
def Obligations.PageWritesAreStored : Prop :=
  (∀ (s : State) (d : Nat), s.mem.port = .writing d →
    exec .pageWriteCommandEnd s = .next { s with
      now := max s.now d, pins := { s.pins with mcs := true }, mem := { s.mem with port := .polling (max s.now d) 0 } }) ∧
  (∀ (s : State) (rise n : Nat) (e : MemEntry) (rest : List MemEntry) (bytes : Vector Byte 64) (b : Byte), Settled s →
    EepromLaw s → s.mem.port = .polling rise n → s.mem.queue = e :: rest → e.req.image = some bytes → s.tune.seq ≠ .commit →
    s.start.load = .none →
    (b.getLsbD 0 = true → n + 1 < 120 →
      exec (.writePoll ⟨b, .none⟩) s = .next { s with
        now := max s.now (rise + 100 * (n + 1)), mem := { s.mem with port := .polling rise (n + 1) } }) ∧
    (b.getLsbD 0 = false →
      ∃ t, exec (.writePoll ⟨b, .none⟩) s = .next t ∧ t.now = max s.now (rise + 100 * (n + 1)) ∧
        (∀ i : Fin 64, Memory.read (64 * e.req.page + i.val) t.eeprom = bytes[i]) ∧
        (∀ a : Nat, ¬ (64 * e.req.page ≤ a ∧ a < 64 * e.req.page + 64) → Memory.read a t.eeprom = Memory.read a s.eeprom) ∧
        t.mem.status = s.mem.status ∧ t.mem.queue = rest ∧ (rest = [] → t.mem.port = .idle ∧ t.pins.mcs = true) ∧
        t.live = s.live ∧ t.calib = s.calib ∧ t.voices = s.voices ∧ t.gates = s.gates ∧ t.link = s.link ∧ t.tune = s.tune ∧
        t.start = s.start) ∧
    (b.getLsbD 0 = true → 120 ≤ n + 1 → txEnabled s = true → s.link.queue.length < 16 →
      ∃ t, exec (.writePoll ⟨b, .none⟩) s = .next t ∧ t.mem = ⟨.failed, [], .idle⟩ ∧ t.pins.mcs = true ∧
        (∃ x ∈ t.link.queue, x.frame = .report .memory 5 [byteOf e.req.page]) ∧
        (∀ a : Nat, ¬ (64 * e.req.page ≤ a ∧ a < 64 * e.req.page + 64) → Memory.read a t.eeprom = Memory.read a s.eeprom) ∧
        t.live = s.live ∧ t.calib = s.calib ∧ t.voices = s.voices ∧ t.gates = s.gates ∧ t.tune = s.tune ∧ t.start = s.start)) ∧
  (∀ (s : State) (rise n : Nat) (e : MemEntry) (rest : List MemEntry) (b : Byte) (u w : VoiceIdx) (osc1 osc2 : CalTable)
      (failures : Fin 3) (drift : BitVec 16) (outcome : TuneOutcome), Settled s →
    let r : MemReq := .calWrite w osc1 osc2 failures drift outcome
    s.mem.port = .polling rise n → s.mem.queue = e :: rest → rest.length = 3 → s.mem.status = .present → s.start.load = .none →
    b.getLsbD 0 = false → s.tune.seq = .commit → s.tune.voice = some u → s.tune.held = some r →
    (∃ t, exec (.writePoll ⟨b, .none⟩) s = .next t ∧ t.mem.queue = rest ++ [⟨r, false⟩] ∧ t.tune.held = none) ∧
    (∀ (src : Station) (slot : PatchSlot) (c : Byte), canReceive s = true → following s = true → c.toNat = slot.val →
      ∃ t, exec (.writePoll ⟨b, .store src c⟩) s = .next t ∧ t.mem.queue = rest ++ [⟨.storeWrite slot (snapshot s), false⟩] ∧
        t.tune.held = some r ∧ t.tune.seq = .commit) ∧
    (∀ (src : Station) (slot : PatchSlot) (c m : Byte), canReceive s = true → following s = true → c.toNat = slot.val →
      (∀ x ∈ rest, x.req.isRecall = false) →
      ∃ t, exec (.writePoll ⟨b, .recall src c m⟩) s = .next t ∧ t.mem.queue = rest ++ [⟨.recallRead slot m, false⟩] ∧
        t.tune.held = some r ∧ t.tune.seq = .commit))

/-! ### The panel -/

/-- KNOB_ROUND_START and KNOB_SAMPLE_END (R125 to R128, R130 to R133): a round selects knob 0, and the end of a sample the next knob.
The sample joins the ring of four; the fourth gives the reading R and the pickup state and no frame; later the average replaces R when
it differs by 6 or more or reaches an end. A plain knob whose position changes queues a Knob frame with the new position; a parameter
knob does so in JUMP and while it is CAUGHT, in CATCH once it reaches its base value, and in RELATIVE it queues the value v' of R132. The
base value (R129) is the queued value of the knob's frame, or the live value without one. A Param of another station uncatches the knob of
its parameter on station 0 and withdraws its queued frame (R134), and so does a recall for the parameters it changes; a morph step sets an
uncaught knob anew in CATCH and queues nothing (R135).
An event that ends a timer or an interval moves the clock to that end: the model's choice of log 3. The due times of rounds and samples are
its reading of log 32. -/
def Obligations.KnobSamplesAreAveraged : Prop :=
  (∀ s : State, s.panel.running = true → s.panel.sample = none →
    exec .knobRoundStart s = .next { s with
      now := max s.now s.panel.nextRound
      pins := { s.pins with ksel := 0 }
      panel := { s.panel with
        sample := some 0, sampleEnd := s.panel.nextRound + 30, nextRound := s.panel.nextRound + 2000 } }) ∧
  (∀ (s : State) (i : Fin 32) (x : BitVec 12), Settled s → QueueLaw s → s.panel.running = true → s.panel.sample = some i →
    let ring := s.panel.knobs[i].ring
    let four := (if ring.length < 4 then ring else ring.drop 1) ++ [x]
    let avg := (four.map BitVec.toNat).sum / 4
    let number := 32 * (stationId s).val + i.val
    let mode := s.start.pickup
    let was := s.panel.knobs[i].pickup
    ∃ t, exec (.knobSampleEnd x) s = .next t ∧ t.now = max s.now s.panel.sampleEnd ∧ t.panel.knobs[i].ring = four ∧
      (∀ j : Fin 32, j ≠ i → t.panel.knobs[j] = s.panel.knobs[j]) ∧ t.panel.switches = s.panel.switches ∧
      (i.val < 31 → t.panel.sample.map Fin.val = some (i.val + 1) ∧ t.panel.sampleEnd = s.panel.sampleEnd + 30 ∧
        t.pins.ksel = BitVec.ofNat 4 (i.val + 1)) ∧
      (i.val = 31 → t.panel.sample = none ∧ t.pins.ksel = s.pins.ksel) ∧
      (four.length < 4 → t.panel.knobs[i].reading = s.panel.knobs[i].reading ∧ t.panel.knobs[i].pickup = was ∧ t.link = s.link) ∧
      (four.length = 4 → s.panel.knobs[i].reading = none →
        t.panel.knobs[i].reading = some avg ∧ t.link = s.link ∧
        (16 ≤ number → t.panel.knobs[i].pickup = some .caught) ∧
        (∀ p : Fin 16, number = p.val → t.panel.knobs[i].pickup = some (pickupAt mode (avg / 4) (baseValue p s)))) ∧
      (∀ r, four.length = 4 → s.panel.knobs[i].reading = some r →
        let takes := 6 ≤ ((avg : Int) - r).natAbs ∨ (avg = 0 ∧ r ≠ 0) ∨ (avg = 4095 ∧ r ≠ 4095)
        let q0 := r / 4
        let q := avg / 4
        (takes → t.panel.knobs[i].reading = some avg) ∧
        (¬ takes → t.panel.knobs[i].reading = some r) ∧
        (¬ takes ∨ q = q0 → t.link = s.link ∧ t.panel.knobs[i].pickup = was) ∧
        (takes → q ≠ q0 → txEnabled s = true →
          (16 ≤ number → KnobHanded s t (byteOf number) q ∧ t.panel.knobs[i].pickup = was) ∧
          (∀ p : Fin 16, number = p.val →
            let v := baseValue p s
            let v' := if q0 < q then v + (q - q0) * (1023 - v) / (1023 - q0) else v - (q0 - q) * v / q0
            (mode = .jump ∨ was = some .caught → KnobHanded s t (byteOf number) q ∧ t.panel.knobs[i].pickup = was) ∧
            (mode = .catch → was = some .waitUp → v ≤ q →
              KnobHanded s t (byteOf number) q ∧ t.panel.knobs[i].pickup = some .caught) ∧
            (mode = .catch → was = some .waitUp → q < v → t.link = s.link ∧ t.panel.knobs[i].pickup = was) ∧
            (mode = .catch → was = some .waitDown → q ≤ v →
              KnobHanded s t (byteOf number) q ∧ t.panel.knobs[i].pickup = some .caught) ∧
            (mode = .catch → was = some .waitDown → v < q → t.link = s.link ∧ t.panel.knobs[i].pickup = was) ∧
            (mode = .relative → was = some .waitUp ∨ was = some .waitDown →
              KnobHanded s t (byteOf number) v' ∧
              t.panel.knobs[i].pickup = some (
                if v' = q ∨ (was = some .waitUp ∧ v' < q) ∨ (was = some .waitDown ∧ q < v') then .caught
                else if q < v' then .waitUp else .waitDown))))) ∧
      t.live = s.live ∧ t.voices = s.voices ∧ t.gates = s.gates ∧ t.mem = s.mem ∧ t.eeprom = s.eeprom) ∧
  (∀ (s : State) (p : Fin 16), QueueLaw s →
    ((∀ e ∈ s.link.queue, isKnobFor (byteOf p.val) e = true → e.withdrawn = true) → baseValue p s = s.live[p].value) ∧
    (∀ e ∈ s.link.queue, ∀ y, e.frame = .knob (byteOf p.val) y → e.withdrawn = false →
      baseValue p s = (e.followOn.getD y).toNat)) ∧
  (∀ (s : State) (src : Station) (p : Fin 16) (x : BitVec 16), Settled s → QueueLaw s → canReceive s = true → following s = true →
    s.panel.running = true → stationId s = 0 →
    ∃ t, exec (.param src (byteOf p.val) x) s = .next t ∧
      t.link = { s.link with
        place := .inPlace s.now, queue := s.link.queue.filter fun e => !isKnobFor (byteOf p.val) e } ∧
      (∀ j : Fin 32, j ≠ knobOfParam p → t.panel.knobs[j] = s.panel.knobs[j]) ∧
      t.panel.knobs[knobOfParam p] = (match s.panel.knobs[knobOfParam p].reading with
        | none => s.panel.knobs[knobOfParam p]
        | some r => { s.panel.knobs[knobOfParam p] with pickup := some (pickupAt s.start.pickup (r / 4) (min x.toNat 1023)) })) ∧
  (∀ (s : State) (d : Nat) (slot : PatchSlot) (m : Byte) (v : Vector Nat 16) (mdi : MdiPage), Settled s → s.mem.port = .reading d →
    s.mem.queue = [⟨.recallRead slot m, false⟩] → s.tune.seq ≠ .commit → s.start.load = .none → s.start.phase = .running →
    s.start.fault ≠ .silent → s.panel.running = true → stationId s = 0 →
    judgePatch slot (MdiPage.bytesOf slot.val s.eeprom mdi) = .valid v →
    ∃ t, exec (.pageReadComplete ⟨mdi, .none⟩) s = .next t ∧
      (∀ e ∈ t.link.queue, ∀ p : Fin 16, isKnobFor (byteOf p.val) e = true → s.live[p].value ≠ v[p] → e.withdrawn = true) ∧
      ∀ p : Fin 16, t.panel.knobs[knobOfParam p] = (match s.panel.knobs[knobOfParam p].reading with
        | none => s.panel.knobs[knobOfParam p]
        | some r => if s.live[p].value = v[p] then s.panel.knobs[knobOfParam p]
          else { s.panel.knobs[knobOfParam p] with
            pickup := some (pickupAt s.start.pickup (r / 4) (if m = 0 then v[p] else s.live[p].value)) })) ∧
  (∀ (s : State) (g : Fin 16) (r : Morph), Settled s → s.live[g].morph = some r →
    (∀ p : Fin 16, ∀ m, s.live[p].morph = some m → r.due < m.due ∨ (r.due = m.due ∧ g ≤ p)) →
    s.panel.running = true → stationId s = 0 →
    ∃ t, exec .morphStep s = .next t ∧ t.link = s.link ∧
      ∀ p : Fin 16, ∀ x, s.panel.knobs[knobOfParam p].reading = some x →
        ((s.start.pickup = .catch ∧ (∃ m, s.live[p].morph = some m ∧ m.startTime = r.startTime) ∧
            (s.panel.knobs[knobOfParam p].pickup = some .waitUp ∨ s.panel.knobs[knobOfParam p].pickup = some .waitDown)) →
          t.panel.knobs[knobOfParam p].pickup = some (pickupAt .catch (x / 4) t.live[p].value)) ∧
        (¬ (s.start.pickup = .catch ∧ (∃ m, s.live[p].morph = some m ∧ m.startTime = r.startTime) ∧
            (s.panel.knobs[knobOfParam p].pickup = some .waitUp ∨ s.panel.knobs[knobOfParam p].pickup = some .waitDown)) →
          t.panel.knobs[knobOfParam p] = s.panel.knobs[knobOfParam p]))

/-- MATRIX_ROW_END (R137, R139 to R141): before row 7 the row's reading is kept and the next row alone is driven. After row 7 each
switch is judged: a reading equal to its state clears its run count; another raises it, up to 3; at 3, with no rectangle of closed
switches that has it as a corner, the new state is accepted. A Switch frame is queued for each accepted change, in ascending order of
switch number, and for nothing else. At a full queue the frame takes the place of the last entry in queue order that is not on the line
if that one's field is higher, and is dropped otherwise; the queue-drop counter rises either way (R21).
An event that ends a timer or an interval moves the clock to that end: the model's choice of log 3. The due times of rows are its reading
of log 32. -/
def Obligations.MatrixPassesAreDebounced : Prop :=
  ∀ (s : State) (ss : BitVec 8), Settled s → QueueLaw s → s.panel.running = true →
    (s.panel.row.val < 7 →
      ∃ t, exec (.matrixRowEnd ss) s = .next t ∧
        t = { s with now := max s.now s.panel.rowEnd
                     panel := { s.panel with raw := updAt s.panel.raw s.panel.row fun _ => ~~~ ss, row := s.panel.row + 1
                                             rowEnd := s.panel.rowEnd + 250 }
                     pins := { s.pins with sd := t.pins.sd } } ∧
        (∀ k : Fin 8, t.pins.sd.getLsbD k.val = (k != s.panel.row + 1))) ∧
    (s.panel.row = 7 →
      ∃ t, exec (.matrixRowEnd ss) s = .next t ∧ t.now = max s.now s.panel.rowEnd ∧ t.panel.row = 0 ∧ t.pins.sd = 0xFE ∧
        t.panel.raw = (updAt s.panel.raw 7 fun _ => ~~~ ss) ∧ t.panel.knobs = s.panel.knobs ∧
        (∀ n : Fin 64,
          let closed := readsClosed t.panel.raw (rowOf n) (colOf n)
          let sw := s.panel.switches[n]
          let corner := ∃ r c : Fin 8, r ≠ rowOf n ∧ c ≠ colOf n ∧ readsClosed t.panel.raw (rowOf n) c = true ∧
            readsClosed t.panel.raw r (colOf n) = true ∧ readsClosed t.panel.raw r c = true
          (closed = sw.closed → t.panel.switches[n] = ⟨sw.closed, 0⟩) ∧
          (closed ≠ sw.closed → sw.run + 1 < 3 → t.panel.switches[n] = ⟨sw.closed, sw.run + 1⟩) ∧
          (closed ≠ sw.closed → 3 ≤ sw.run + 1 → corner → t.panel.switches[n] = ⟨sw.closed, 3⟩) ∧
          (closed ≠ sw.closed → 3 ≤ sw.run + 1 → ¬ corner → t.panel.switches[n] = ⟨closed, 0⟩)) ∧
        (let changed := (List.finRange 64).filter fun n => t.panel.switches[n].closed != s.panel.switches[n].closed
        let frameOf (n : Fin 64) : Frame := .switch (BitVec.ofNat 6 n.val) t.panel.switches[n].closed
        let fieldOf (n : Fin 64) : Nat := 12288 + n.val * 8 + (stationId s).val
        ((changed = [] ∨ txEnabled s = false) → t.link = s.link) ∧
        (txEnabled s = true → s.link.queue.length + changed.length ≤ 16 →
          t.link = changed.foldl (fun l n => enterFrame (frameOf n) (fieldOf n) l) s.link) ∧
        (∀ (n : Fin 64) (w : TxEntry), changed = [n] → txEnabled s = true → s.link.queue.length = 16 →
          worstEntry s.link.queue = some w → hasLossNotice w.frame = false →
          (fieldOf n < w.field →
            t.link = { enterFrame (frameOf n) (fieldOf n) s.link with
              queue := insertEntry ⟨frameOf n, fieldOf n, .panel, s.link.nextOrder, false, false, none⟩
                (s.link.queue.filter fun x => x.order != w.order)
              counters := s.link.counters.addQueueDrop }) ∧
          (w.field ≤ fieldOf n → t.link = { s.link with counters := s.link.counters.addQueueDrop }))) ∧
        t.live = s.live ∧ t.voices = s.voices ∧ t.gates = s.gates ∧ t.mem = s.mem ∧ t.eeprom = s.eeprom)

/-! ### The tune measurement -/

/-- SETTLE_TIMER_EXPIRY (R171, R181): the counter is armed for 2^(k − 1) periods with a start limit of 100 ms. TIN_FIRST_EDGE
(R171): an armed counter starts to count. REFRESH_TIMER_EXPIRY (R178): a refresh Tune-Begin is queued for a voice still in TUNING
that has none, and the timer does not start again.
An event that ends a timer or an interval moves the clock to that end: the model's choice of log 3. -/
def Obligations.CountIsArmedAndStarted : Prop :=
  (∀ (s : State) (d : Nat) (w : TuneWork), s.tune.settleTimer = some d → s.tune.work = some w →
    exec .settleTimerExpiry s = .next { s with
      now := max s.now d
      tune := { s.tune with settleTimer := none, counter := .armed (2 ^ (w.k - 1)) (max s.now d + 100000) } }) ∧
  (∀ (s : State) (n limit : Nat), s.tune.counter = .armed n limit →
    exec .tinFirstEdge s = .next { s with tune := { s.tune with counter := .counting n s.now } }) ∧
  (∀ (s : State) (d : Nat) (u : VoiceIdx), Settled s → s.tune.refreshTimer = some d → s.tune.voice = some u →
    s.voices[u].state = .tuning → s.tune.refreshMark = false → txEnabled s = true → s.link.queue.length < 16 →
    exec .refreshTimerExpiry s = .next { s with
      now := max s.now d
      tune := { s.tune with refreshTimer := none, refreshMark := true }
      link := { s.link with
        queue := insertEntry ⟨.tuneBegin u true, 4096 + u.val * 8 + (stationId s).val, .tune, s.link.nextOrder, false, false,
          none⟩ s.link.queue
        nextOrder := s.link.nextOrder + 1 } })

/-- COUNT_END of a count in range (R171, R181 to R184): with an error of at most 2 the next breakpoint is measured, with the working
tables as they are; with a larger one before pass 4 the code of the breakpoint is corrected by sign(e × S) × floor((|e × S| + 1536) ÷
3072) and measured again. In both cases the code to be measured is posted with the measure mark, and the committed tables stay. When
breakpoint 9 of oscillator 2 is accepted (R185, R186), C(0) and C(10) are extrapolated; with both tables in order they become the
committed ones, calibrated, with 0 failures, the drift and the outcome OK up to a drift of 1440 and OK-DRIFT above it, and the voice is
IDLE; otherwise the tune fails as NON-MONOTONIC at the first breakpoint out of order (R187).
An event that ends a timer or an interval moves the clock to that end: the model's choice of log 3. The clock at the end of a
count is log 27. -/
def Obligations.CountIsJudged : Prop :=
  ∀ (s : State) (u : VoiceIdx) (w : TuneWork) (n since : Nat) (c : BitVec 20), Settled s → s.tune.counter = .counting n since →
    s.tune.voice = some u → s.tune.work = some w → 1 ≤ w.k → w.k ≤ 9 → 244624 ≤ c.toNat → c.toNat ≤ 978498 →
    let e := tuneError c.toNat
    let slope : Int := max 1 (((tabAt (w.tab w.osc) (w.k + 1)).toNat - (tabAt (w.tab w.osc) (w.k - 1)).toNat : Int).tdiv 2)
    (e.natAbs ≤ 2 → w.k < 9 →
      ∃ t, exec (.countEnd c) s = .next t ∧ t.now = max s.now (since + (c.toNat + 7) / 8) ∧ t.tune.counter = .idle ∧
        t.tune.seq = .measure ∧ t.tune.work = some { w with k := w.k + 1, pass := 1 } ∧
        MarkedCode t (slotOf u w.osc.channel) (tabAt (w.tab w.osc) (w.k + 1)) ∧
        t.calib = s.calib ∧ t.voices = s.voices ∧ t.gates = s.gates ∧ t.link = s.link ∧ t.eeprom = s.eeprom) ∧
    (e.natAbs ≤ 2 → w.k = 9 → w.osc = .osc1 →
      ∃ t, exec (.countEnd c) s = .next t ∧ t.tune.work = some { w with osc := .osc2, k := 1, pass := 1 } ∧
        t.pins.tsel = BitVec.ofNat 4 (2 * u.val + 1) ∧ MarkedCode t (slotOf u chP2) (tabAt w.tab2 1) ∧
        t.calib = s.calib ∧ t.voices = s.voices ∧ t.gates = s.gates ∧ t.link = s.link ∧ t.eeprom = s.eeprom) ∧
    (3 ≤ e.natAbs → w.pass < 4 →
      ∃ t w', exec (.countEnd c) s = .next t ∧ t.tune.work = some w' ∧ w'.osc = w.osc ∧ w'.k = w.k ∧ w'.pass = w.pass + 1 ∧
        ((tabAt (w'.tab w.osc) w.k).toNat : Int) = max 0 (min 65535 ((tabAt (w.tab w.osc) w.k).toNat +
          (e * slope).sign * (((e * slope).natAbs + 1536) / 3072 : Nat))) ∧
        (∀ j : Nat, j ≤ 10 → j ≠ w.k → tabAt (w'.tab w.osc) j = tabAt (w.tab w.osc) j) ∧
        MarkedCode t (slotOf u w.osc.channel) (tabAt (w'.tab w.osc) w.k) ∧
        t.calib = s.calib ∧ t.voices = s.voices ∧ t.gates = s.gates ∧ t.link = s.link ∧ t.eeprom = s.eeprom) ∧
    (e.natAbs ≤ 2 → w.k = 9 → w.osc = .osc2 → s.tune.seq = .measure → s.voices[u].state = .tuning → s.start.fault ≠ .silent →
      s.link.queue.length < 14 → ∀ T1 T2 : CalTable, Completes w.tab1 T1 → Completes w.tab2 T2 →
      ∃ t, exec (.countEnd c) s = .next t ∧ t.tune.counter = .idle ∧ t.tune.work = none ∧ t.tune.settleTimer = none ∧
        t.pins.tsel = 0 ∧ (∀ v : VoiceIdx, v ≠ u → t.voices[v] = s.voices[v]) ∧ t.gates = s.gates ∧ t.claims = s.claims ∧
        t.live = s.live ∧ t.eeprom = s.eeprom ∧
        (increasing T1 = true → increasing T2 = true →
          ∃ drift : Nat,
            (∀ k : Nat, k ≤ 10 → ((tabAt T1 k).toNat - (tabAt s.calib[u].osc1 k).toNat : Int).natAbs ≤ drift ∧
              ((tabAt T2 k).toNat - (tabAt s.calib[u].osc2 k).toNat : Int).natAbs ≤ drift) ∧
            (∃ k : Nat, k ≤ 10 ∧ (((tabAt T1 k).toNat - (tabAt s.calib[u].osc1 k).toNat : Int).natAbs = drift ∨
              ((tabAt T2 k).toNat - (tabAt s.calib[u].osc2 k).toNat : Int).natAbs = drift)) ∧
            t.calib = updAt s.calib u (fun _ =>
              ⟨T1, T2, true, 0, BitVec.ofNat 16 drift, if drift ≤ 1440 then .ok else .okDrift⟩) ∧
            t.tune.result = some (if drift ≤ 1440 then .ok else .okDrift, 0) ∧ t.voices[u].state = .idle) ∧
        (∀ (o k : Nat) (T : CalTable), ((o = 1 ∧ T = T1) ∨ (o = 2 ∧ T = T2 ∧ increasing T1 = true)) → 1 ≤ k → k ≤ 10 →
          (∀ j : Nat, 1 ≤ j → j < k → tabAt T (j - 1) < tabAt T j) → ¬ tabAt T (k - 1) < tabAt T k →
          t.tune.result = some (.nonMonotonic, byteOf (16 * o + k)) ∧
          t.calib = updAt s.calib u (fun x => { x with
            failures := if s.calib[u].failures = 0 then 1 else 2, outcome := .nonMonotonic }) ∧
          t.voices[u].state = (if s.calib[u].failures = 0 then .idle else .retired)))

/-- A tune that fails (R171, R184, R187): no first edge before the start limit gives NO-SIGNAL, a count that reaches 978,499 or ends
below 244,624 gives OUT-OF-RANGE, and an error above 2 at pass 4 gives NO-CONVERGE. The committed tables stay, the failure count
rises up to 2, the outcome is kept, and the voice is RETIRED at a count of 2 and IDLE otherwise. -/
def Obligations.FailedTunesAreCounted : Prop :=
  ∀ (s : State) (u : VoiceIdx) (w : TuneWork), Settled s → s.tune.voice = some u → s.tune.work = some w →
    s.tune.seq = .measure → s.voices[u].state = .tuning → s.start.fault ≠ .silent → s.link.queue.length < 14 →
    ∀ c o,
      ((c = Instr.startLimitExpiry ∧ o = TuneOutcome.noSignal ∧ ∃ n l, s.tune.counter = .armed n l) ∨
        (c = .countOverflow ∧ o = .outOfRange ∧ ∃ n since, s.tune.counter = .counting n since) ∨
        (∃ x : BitVec 20, c = .countEnd x ∧ o = .outOfRange ∧ x.toNat < 244624 ∧ ∃ n since, s.tune.counter = .counting n since) ∨
        (∃ x : BitVec 20, c = .countEnd x ∧ o = .noConverge ∧ 244624 ≤ x.toNat ∧ x.toNat ≤ 978498 ∧
          3 ≤ (tuneError x.toNat).natAbs ∧ 4 ≤ w.pass ∧ ∃ n since, s.tune.counter = .counting n since)) →
      ∃ t, exec c s = .next t ∧ t.tune.counter = .idle ∧ t.tune.work = none ∧ t.tune.settleTimer = none ∧
        t.tune.result = some (o, byteOf (16 * w.osc.num + w.k)) ∧ t.pins.tsel = 0 ∧
        t.calib = updAt s.calib u (fun x => { x with failures := if s.calib[u].failures = 0 then 1 else 2, outcome := o }) ∧
        t.voices[u].state = (if s.calib[u].failures = 0 then .idle else .retired) ∧
        (∀ v : VoiceIdx, v ≠ u → t.voices[v] = s.voices[v]) ∧
        t.gates = s.gates ∧ t.claims = s.claims ∧ t.live = s.live ∧ t.eeprom = s.eeprom

/-- The pitch error of a count (R182): e is 3072 × log₂(T ÷ T*) rounded to nearest with halves away from zero. With H and L the
greater and the lesser of T and T* = 489,249, and e the size of the error, 2e − 1 ≤ 6144 × log₂(H ÷ L) < 2e + 1, written with
powers; the sign is that of T − T*. -/
def Obligations.TuneErrorIsRounded : Prop :=
  ∀ n : Nat, 244624 ≤ n → n ≤ 978498 →
    let hi := max n 489249
    let lo := min n 489249
    ∃ e : Nat, tuneError n = (if 489249 ≤ n then (e : Int) else -(e : Int)) ∧ e ≤ 3072 ∧
      hi ^ 6144 < 2 ^ (2 * e + 1) * lo ^ 6144 ∧ (1 ≤ e → 2 ^ (2 * e - 1) * lo ^ 6144 ≤ hi ^ 6144)

/-! ### Frames and pages as bits -/

/-- A frame as the station sends it, with any rank and sender, is taken by a receiver as that frame of that sender (R4, R13, R15): a
Report with the data length of its type, and every other frame. -/
def Obligations.FrameIsTakenAsSent : Prop :=
  ∀ (f : Frame) (rank : Nat) (sender : Station), (∀ ty sub data, f = .report ty sub data → data.length = ty.dataLength) →
    (f.raw rank sender).judge = .taken sender f

/-- What a receiver assembles from the line bits of a frame, the sync bits removed, is the frame that was sent (R3, R4), and no seven
bits in a row of the span are equal. -/
def Obligations.LineBitsAreRead : Prop :=
  ∀ f : RawFrame, f.payload.length < 15 →
    receiveLine f.lineBits = some f ∧
    ∀ (before after : List Bool) (b : Bool), insertSync true 0 f.span ≠ before ++ List.replicate 7 b ++ after

/-- The page of a Store, read back, is valid for its slot and gives the stored values; the page of a tune's CAL-WRITE, read back, is
valid for its voice and gives the calibration state it was made from (R164 to R166). -/
def Obligations.PagesReadBack : Prop :=
  (∀ (slot : PatchSlot) (v : Vector Nat 16), (∀ p : Fin 16, v[p] ≤ 1023) → judgePatch slot (patchPage slot v) = .valid v) ∧
  (∀ (u : VoiceIdx) (o1 o2 : CalTable) (n : Fin 3) (d : BitVec 16) (o : TuneOutcome), increasing o1 = true →
    increasing o2 = true → o ≠ .aborted → judgeCal u (calPage u o1 o2 n d o) = some ⟨o1, o2, true, n, d, o⟩)

/-! ### Laws that every step keeps -/

/-- R59: every step keeps that a gate is high only while its voice is HELD or SUSTAINED and the station is RUNNING and NORMAL, and that
the gates from V on are low. -/
def Obligations.GatesStayLawful : Prop :=
  ∀ s t : State, GateLaw s → step s = .next t → GateLaw t

/-- R7, R18: every step keeps that only a station whose transmitter is enabled has a frame of its own on the line, and keeps the
transmit queue within 16 entries and in its order, with one Knob entry for a knob at most and one entry on the line exactly while
the station sends. No step leaves a loss notice undelivered (R23). -/
def Obligations.QueueStaysOrdered : Prop :=
  ∀ s t : State, TransmitLaw s → step s = .next t →
    TransmitLaw t ∧ (QueueLaw s → QueueLaw t) ∧ (s.link.notices = [] → t.link.notices = [])

/-- R47, R63: every step keeps at most 4 pending claims of distinct identities and voices, a voice nominated exactly when an entry names
it, and at most one voice for an identity. -/
def Obligations.ClaimsStayConsistent : Prop :=
  ∀ s t : State, ClaimLaw s → step s = .next t → ClaimLaw t

/-- R143, R151: every step keeps every live value from 0 to 1023, and every morph within that range with steps to make. -/
def Obligations.LiveValuesStayInRange : Prop :=
  ∀ s t : State, LiveLaw s → step s = .next t → LiveLaw t

/-- Every step keeps the forms of the two ports' tables: at most 4 requests in the memory queue, of which at most one is an
unstarted RECALL-READ (R160); the EEPROM's byte list canonical and within 32 KiB; and an in-flight code only in the slot that the
CV port is writing (R108, R113). -/
def Obligations.PortsStayInForm : Prop :=
  ∀ s t : State, step s = .next t →
    (MemQueueLaw s → MemQueueLaw t) ∧ (EepromLaw s → EepromLaw t) ∧ (PortLaw s → PortLaw t)

/-- R96: for a strictly increasing table, the code computed for a pitch never decreases as the pitch rises; every committed calibration
table is strictly increasing after reset, and every step keeps that. -/
def Obligations.TablesStayIncreasing : Prop :=
  (∀ (t : CalTable) (p p' : Nat), increasing t = true → p ≤ p' → p' ≤ 32767 →
    (pitchCode t p).toNat ≤ (pitchCode t p').toNat) ∧
  CalibLaw State.reset ∧
  (∀ s t : State, CalibLaw s → step s = .next t → CalibLaw t)

/-- The state right after reset satisfies every law that the invariants carry on. -/
def Obligations.ResetKeepsTheLaws : Prop :=
  GateLaw State.reset ∧ TransmitLaw State.reset ∧ QueueLaw State.reset ∧ ClaimLaw State.reset ∧ LiveLaw State.reset ∧
    MemQueueLaw State.reset ∧ EepromLaw State.reset ∧ PortLaw State.reset ∧ CalibLaw State.reset ∧ Settled State.reset
end

