-- ==== Sys2Proof/Laws/State.lean ====
section
/-!
SUPPORT. One lemma per field per update of State, by rfl, so that no later proof unfolds a record update; and what the element
update of a table does.
-/
namespace Sys2Proof.Machine
open Sys2Proof
set_option Elab.async false

/-- The element update: the changed element, and every other one. -/
theorem updAt_getElem {α : Type} {n : Nat} (v : Vector α n) (i j : Fin n) (f : α → α) :
    (updAt v i f)[j] = if j = i then f v[i] else v[j] := by
  simp only [updAt, Fin.getElem_fin, Vector.getElem_set, Fin.ext_iff]
  by_cases h : i.val = j.val <;> simp [h, eq_comm]

@[simp] theorem updAt_same {α : Type} {n : Nat} (v : Vector α n) (i : Fin n) (f : α → α) : (updAt v i f)[i] = f v[i] := by
  rw [updAt_getElem, if_pos rfl]

theorem updAt_other {α : Type} {n : Nat} (v : Vector α n) (i j : Fin n) (f : α → α) (h : j ≠ i) :
    (updAt v i f)[j] = v[j] := by
  rw [updAt_getElem, if_neg h]

@[simp] theorem advanceTo_now (t : Nat) (s : State) : (advanceTo t s).now = max s.now t := rfl
@[simp] theorem advanceTo_pending (t : Nat) (s : State) : (advanceTo t s).pending = s.pending := rfl
@[simp] theorem advanceTo_start (t : Nat) (s : State) : (advanceTo t s).start = s.start := rfl
@[simp] theorem advanceTo_link (t : Nat) (s : State) : (advanceTo t s).link = s.link := rfl
@[simp] theorem advanceTo_voices (t : Nat) (s : State) : (advanceTo t s).voices = s.voices := rfl
@[simp] theorem advanceTo_gates (t : Nat) (s : State) : (advanceTo t s).gates = s.gates := rfl
@[simp] theorem advanceTo_sources (t : Nat) (s : State) : (advanceTo t s).sources = s.sources := rfl
@[simp] theorem advanceTo_claims (t : Nat) (s : State) : (advanceTo t s).claims = s.claims := rfl
@[simp] theorem advanceTo_glides (t : Nat) (s : State) : (advanceTo t s).glides = s.glides := rfl
@[simp] theorem advanceTo_slots (t : Nat) (s : State) : (advanceTo t s).slots = s.slots := rfl
@[simp] theorem advanceTo_sched (t : Nat) (s : State) : (advanceTo t s).sched = s.sched := rfl
@[simp] theorem advanceTo_panel (t : Nat) (s : State) : (advanceTo t s).panel = s.panel := rfl
@[simp] theorem advanceTo_live (t : Nat) (s : State) : (advanceTo t s).live = s.live := rfl
@[simp] theorem advanceTo_mem (t : Nat) (s : State) : (advanceTo t s).mem = s.mem := rfl
@[simp] theorem advanceTo_eeprom (t : Nat) (s : State) : (advanceTo t s).eeprom = s.eeprom := rfl
@[simp] theorem advanceTo_calib (t : Nat) (s : State) : (advanceTo t s).calib = s.calib := rfl
@[simp] theorem advanceTo_tune (t : Nat) (s : State) : (advanceTo t s).tune = s.tune := rfl
@[simp] theorem advanceTo_pins (t : Nat) (s : State) : (advanceTo t s).pins = s.pins := rfl
@[simp] theorem advanceTo_freeCount (t : Nat) (s : State) : (advanceTo t s).freeCount = s.freeCount := rfl

@[simp] theorem tick_now (s : State) : (tick s).now = s.now + 1 := rfl
@[simp] theorem tick_pending (s : State) : (tick s).pending = s.pending := rfl
@[simp] theorem tick_start (s : State) : (tick s).start = s.start := rfl
@[simp] theorem tick_link (s : State) : (tick s).link = s.link := rfl
@[simp] theorem tick_voices (s : State) : (tick s).voices = s.voices := rfl
@[simp] theorem tick_gates (s : State) : (tick s).gates = s.gates := rfl
@[simp] theorem tick_sources (s : State) : (tick s).sources = s.sources := rfl
@[simp] theorem tick_claims (s : State) : (tick s).claims = s.claims := rfl
@[simp] theorem tick_glides (s : State) : (tick s).glides = s.glides := rfl
@[simp] theorem tick_slots (s : State) : (tick s).slots = s.slots := rfl
@[simp] theorem tick_sched (s : State) : (tick s).sched = s.sched := rfl
@[simp] theorem tick_panel (s : State) : (tick s).panel = s.panel := rfl
@[simp] theorem tick_live (s : State) : (tick s).live = s.live := rfl
@[simp] theorem tick_mem (s : State) : (tick s).mem = s.mem := rfl
@[simp] theorem tick_eeprom (s : State) : (tick s).eeprom = s.eeprom := rfl
@[simp] theorem tick_calib (s : State) : (tick s).calib = s.calib := rfl
@[simp] theorem tick_tune (s : State) : (tick s).tune = s.tune := rfl
@[simp] theorem tick_pins (s : State) : (tick s).pins = s.pins := rfl
@[simp] theorem tick_freeCount (s : State) : (tick s).freeCount = s.freeCount := rfl

@[simp] theorem updVoice_now (u : VoiceIdx) (f : Voice → Voice) (s : State) : (updVoice u f s).now = s.now := rfl
@[simp] theorem updVoice_pending (u : VoiceIdx) (f : Voice → Voice) (s : State) : (updVoice u f s).pending = s.pending := rfl
@[simp] theorem updVoice_start (u : VoiceIdx) (f : Voice → Voice) (s : State) : (updVoice u f s).start = s.start := rfl
@[simp] theorem updVoice_link (u : VoiceIdx) (f : Voice → Voice) (s : State) : (updVoice u f s).link = s.link := rfl
@[simp] theorem updVoice_voices (u : VoiceIdx) (f : Voice → Voice) (s : State) : (updVoice u f s).voices = updAt s.voices u f := rfl
@[simp] theorem updVoice_gates (u : VoiceIdx) (f : Voice → Voice) (s : State) : (updVoice u f s).gates = s.gates := rfl
@[simp] theorem updVoice_sources (u : VoiceIdx) (f : Voice → Voice) (s : State) : (updVoice u f s).sources = s.sources := rfl
@[simp] theorem updVoice_claims (u : VoiceIdx) (f : Voice → Voice) (s : State) : (updVoice u f s).claims = s.claims := rfl
@[simp] theorem updVoice_glides (u : VoiceIdx) (f : Voice → Voice) (s : State) : (updVoice u f s).glides = s.glides := rfl
@[simp] theorem updVoice_slots (u : VoiceIdx) (f : Voice → Voice) (s : State) : (updVoice u f s).slots = s.slots := rfl
@[simp] theorem updVoice_sched (u : VoiceIdx) (f : Voice → Voice) (s : State) : (updVoice u f s).sched = s.sched := rfl
@[simp] theorem updVoice_panel (u : VoiceIdx) (f : Voice → Voice) (s : State) : (updVoice u f s).panel = s.panel := rfl
@[simp] theorem updVoice_live (u : VoiceIdx) (f : Voice → Voice) (s : State) : (updVoice u f s).live = s.live := rfl
@[simp] theorem updVoice_mem (u : VoiceIdx) (f : Voice → Voice) (s : State) : (updVoice u f s).mem = s.mem := rfl
@[simp] theorem updVoice_eeprom (u : VoiceIdx) (f : Voice → Voice) (s : State) : (updVoice u f s).eeprom = s.eeprom := rfl
@[simp] theorem updVoice_calib (u : VoiceIdx) (f : Voice → Voice) (s : State) : (updVoice u f s).calib = s.calib := rfl
@[simp] theorem updVoice_tune (u : VoiceIdx) (f : Voice → Voice) (s : State) : (updVoice u f s).tune = s.tune := rfl
@[simp] theorem updVoice_pins (u : VoiceIdx) (f : Voice → Voice) (s : State) : (updVoice u f s).pins = s.pins := rfl
@[simp] theorem updVoice_freeCount (u : VoiceIdx) (f : Voice → Voice) (s : State) : (updVoice u f s).freeCount = s.freeCount := rfl

@[simp] theorem setGate_now (u : VoiceIdx) (b : Bool) (s : State) : (setGate u b s).now = s.now := rfl
@[simp] theorem setGate_pending (u : VoiceIdx) (b : Bool) (s : State) : (setGate u b s).pending = s.pending := rfl
@[simp] theorem setGate_start (u : VoiceIdx) (b : Bool) (s : State) : (setGate u b s).start = s.start := rfl
@[simp] theorem setGate_link (u : VoiceIdx) (b : Bool) (s : State) : (setGate u b s).link = s.link := rfl
@[simp] theorem setGate_voices (u : VoiceIdx) (b : Bool) (s : State) : (setGate u b s).voices = s.voices := rfl
@[simp] theorem setGate_gates (u : VoiceIdx) (b : Bool) (s : State) : (setGate u b s).gates = updAt s.gates u fun _ => b := rfl
@[simp] theorem setGate_sources (u : VoiceIdx) (b : Bool) (s : State) : (setGate u b s).sources = s.sources := rfl
@[simp] theorem setGate_claims (u : VoiceIdx) (b : Bool) (s : State) : (setGate u b s).claims = s.claims := rfl
@[simp] theorem setGate_glides (u : VoiceIdx) (b : Bool) (s : State) : (setGate u b s).glides = s.glides := rfl
@[simp] theorem setGate_slots (u : VoiceIdx) (b : Bool) (s : State) : (setGate u b s).slots = s.slots := rfl
@[simp] theorem setGate_sched (u : VoiceIdx) (b : Bool) (s : State) : (setGate u b s).sched = s.sched := rfl
@[simp] theorem setGate_panel (u : VoiceIdx) (b : Bool) (s : State) : (setGate u b s).panel = s.panel := rfl
@[simp] theorem setGate_live (u : VoiceIdx) (b : Bool) (s : State) : (setGate u b s).live = s.live := rfl
@[simp] theorem setGate_mem (u : VoiceIdx) (b : Bool) (s : State) : (setGate u b s).mem = s.mem := rfl
@[simp] theorem setGate_eeprom (u : VoiceIdx) (b : Bool) (s : State) : (setGate u b s).eeprom = s.eeprom := rfl
@[simp] theorem setGate_calib (u : VoiceIdx) (b : Bool) (s : State) : (setGate u b s).calib = s.calib := rfl
@[simp] theorem setGate_tune (u : VoiceIdx) (b : Bool) (s : State) : (setGate u b s).tune = s.tune := rfl
@[simp] theorem setGate_pins (u : VoiceIdx) (b : Bool) (s : State) : (setGate u b s).pins = s.pins := rfl
@[simp] theorem setGate_freeCount (u : VoiceIdx) (b : Bool) (s : State) : (setGate u b s).freeCount = s.freeCount := rfl

@[simp] theorem gatesLow_now (s : State) : (gatesLow s).now = s.now := rfl
@[simp] theorem gatesLow_pending (s : State) : (gatesLow s).pending = s.pending := rfl
@[simp] theorem gatesLow_start (s : State) : (gatesLow s).start = s.start := rfl
@[simp] theorem gatesLow_link (s : State) : (gatesLow s).link = s.link := rfl
@[simp] theorem gatesLow_voices (s : State) : (gatesLow s).voices = s.voices := rfl
@[simp] theorem gatesLow_gates (s : State) : (gatesLow s).gates = Vector.replicate 6 false := rfl
@[simp] theorem gatesLow_sources (s : State) : (gatesLow s).sources = s.sources := rfl
@[simp] theorem gatesLow_claims (s : State) : (gatesLow s).claims = s.claims := rfl
@[simp] theorem gatesLow_glides (s : State) : (gatesLow s).glides = s.glides := rfl
@[simp] theorem gatesLow_slots (s : State) : (gatesLow s).slots = s.slots := rfl
@[simp] theorem gatesLow_sched (s : State) : (gatesLow s).sched = s.sched := rfl
@[simp] theorem gatesLow_panel (s : State) : (gatesLow s).panel = s.panel := rfl
@[simp] theorem gatesLow_live (s : State) : (gatesLow s).live = s.live := rfl
@[simp] theorem gatesLow_mem (s : State) : (gatesLow s).mem = s.mem := rfl
@[simp] theorem gatesLow_eeprom (s : State) : (gatesLow s).eeprom = s.eeprom := rfl
@[simp] theorem gatesLow_calib (s : State) : (gatesLow s).calib = s.calib := rfl
@[simp] theorem gatesLow_tune (s : State) : (gatesLow s).tune = s.tune := rfl
@[simp] theorem gatesLow_pins (s : State) : (gatesLow s).pins = s.pins := rfl
@[simp] theorem gatesLow_freeCount (s : State) : (gatesLow s).freeCount = s.freeCount := rfl

@[simp] theorem updSource_now (i : Station) (f : Source → Source) (s : State) : (updSource i f s).now = s.now := rfl
@[simp] theorem updSource_pending (i : Station) (f : Source → Source) (s : State) : (updSource i f s).pending = s.pending := rfl
@[simp] theorem updSource_start (i : Station) (f : Source → Source) (s : State) : (updSource i f s).start = s.start := rfl
@[simp] theorem updSource_link (i : Station) (f : Source → Source) (s : State) : (updSource i f s).link = s.link := rfl
@[simp] theorem updSource_voices (i : Station) (f : Source → Source) (s : State) : (updSource i f s).voices = s.voices := rfl
@[simp] theorem updSource_gates (i : Station) (f : Source → Source) (s : State) : (updSource i f s).gates = s.gates := rfl
@[simp] theorem updSource_sources (i : Station) (f : Source → Source) (s : State) : (updSource i f s).sources = updAt s.sources i f := rfl
@[simp] theorem updSource_claims (i : Station) (f : Source → Source) (s : State) : (updSource i f s).claims = s.claims := rfl
@[simp] theorem updSource_glides (i : Station) (f : Source → Source) (s : State) : (updSource i f s).glides = s.glides := rfl
@[simp] theorem updSource_slots (i : Station) (f : Source → Source) (s : State) : (updSource i f s).slots = s.slots := rfl
@[simp] theorem updSource_sched (i : Station) (f : Source → Source) (s : State) : (updSource i f s).sched = s.sched := rfl
@[simp] theorem updSource_panel (i : Station) (f : Source → Source) (s : State) : (updSource i f s).panel = s.panel := rfl
@[simp] theorem updSource_live (i : Station) (f : Source → Source) (s : State) : (updSource i f s).live = s.live := rfl
@[simp] theorem updSource_mem (i : Station) (f : Source → Source) (s : State) : (updSource i f s).mem = s.mem := rfl
@[simp] theorem updSource_eeprom (i : Station) (f : Source → Source) (s : State) : (updSource i f s).eeprom = s.eeprom := rfl
@[simp] theorem updSource_calib (i : Station) (f : Source → Source) (s : State) : (updSource i f s).calib = s.calib := rfl
@[simp] theorem updSource_tune (i : Station) (f : Source → Source) (s : State) : (updSource i f s).tune = s.tune := rfl
@[simp] theorem updSource_pins (i : Station) (f : Source → Source) (s : State) : (updSource i f s).pins = s.pins := rfl
@[simp] theorem updSource_freeCount (i : Station) (f : Source → Source) (s : State) : (updSource i f s).freeCount = s.freeCount := rfl

@[simp] theorem updGlide_now (u : VoiceIdx) (f : Glide → Glide) (s : State) : (updGlide u f s).now = s.now := rfl
@[simp] theorem updGlide_pending (u : VoiceIdx) (f : Glide → Glide) (s : State) : (updGlide u f s).pending = s.pending := rfl
@[simp] theorem updGlide_start (u : VoiceIdx) (f : Glide → Glide) (s : State) : (updGlide u f s).start = s.start := rfl
@[simp] theorem updGlide_link (u : VoiceIdx) (f : Glide → Glide) (s : State) : (updGlide u f s).link = s.link := rfl
@[simp] theorem updGlide_voices (u : VoiceIdx) (f : Glide → Glide) (s : State) : (updGlide u f s).voices = s.voices := rfl
@[simp] theorem updGlide_gates (u : VoiceIdx) (f : Glide → Glide) (s : State) : (updGlide u f s).gates = s.gates := rfl
@[simp] theorem updGlide_sources (u : VoiceIdx) (f : Glide → Glide) (s : State) : (updGlide u f s).sources = s.sources := rfl
@[simp] theorem updGlide_claims (u : VoiceIdx) (f : Glide → Glide) (s : State) : (updGlide u f s).claims = s.claims := rfl
@[simp] theorem updGlide_glides (u : VoiceIdx) (f : Glide → Glide) (s : State) : (updGlide u f s).glides = updAt s.glides u f := rfl
@[simp] theorem updGlide_slots (u : VoiceIdx) (f : Glide → Glide) (s : State) : (updGlide u f s).slots = s.slots := rfl
@[simp] theorem updGlide_sched (u : VoiceIdx) (f : Glide → Glide) (s : State) : (updGlide u f s).sched = s.sched := rfl
@[simp] theorem updGlide_panel (u : VoiceIdx) (f : Glide → Glide) (s : State) : (updGlide u f s).panel = s.panel := rfl
@[simp] theorem updGlide_live (u : VoiceIdx) (f : Glide → Glide) (s : State) : (updGlide u f s).live = s.live := rfl
@[simp] theorem updGlide_mem (u : VoiceIdx) (f : Glide → Glide) (s : State) : (updGlide u f s).mem = s.mem := rfl
@[simp] theorem updGlide_eeprom (u : VoiceIdx) (f : Glide → Glide) (s : State) : (updGlide u f s).eeprom = s.eeprom := rfl
@[simp] theorem updGlide_calib (u : VoiceIdx) (f : Glide → Glide) (s : State) : (updGlide u f s).calib = s.calib := rfl
@[simp] theorem updGlide_tune (u : VoiceIdx) (f : Glide → Glide) (s : State) : (updGlide u f s).tune = s.tune := rfl
@[simp] theorem updGlide_pins (u : VoiceIdx) (f : Glide → Glide) (s : State) : (updGlide u f s).pins = s.pins := rfl
@[simp] theorem updGlide_freeCount (u : VoiceIdx) (f : Glide → Glide) (s : State) : (updGlide u f s).freeCount = s.freeCount := rfl

@[simp] theorem updSlot_now (i : SlotIdx) (f : Slot → Slot) (s : State) : (updSlot i f s).now = s.now := rfl
@[simp] theorem updSlot_pending (i : SlotIdx) (f : Slot → Slot) (s : State) : (updSlot i f s).pending = s.pending := rfl
@[simp] theorem updSlot_start (i : SlotIdx) (f : Slot → Slot) (s : State) : (updSlot i f s).start = s.start := rfl
@[simp] theorem updSlot_link (i : SlotIdx) (f : Slot → Slot) (s : State) : (updSlot i f s).link = s.link := rfl
@[simp] theorem updSlot_voices (i : SlotIdx) (f : Slot → Slot) (s : State) : (updSlot i f s).voices = s.voices := rfl
@[simp] theorem updSlot_gates (i : SlotIdx) (f : Slot → Slot) (s : State) : (updSlot i f s).gates = s.gates := rfl
@[simp] theorem updSlot_sources (i : SlotIdx) (f : Slot → Slot) (s : State) : (updSlot i f s).sources = s.sources := rfl
@[simp] theorem updSlot_claims (i : SlotIdx) (f : Slot → Slot) (s : State) : (updSlot i f s).claims = s.claims := rfl
@[simp] theorem updSlot_glides (i : SlotIdx) (f : Slot → Slot) (s : State) : (updSlot i f s).glides = s.glides := rfl
@[simp] theorem updSlot_slots (i : SlotIdx) (f : Slot → Slot) (s : State) : (updSlot i f s).slots = updAt s.slots i f := rfl
@[simp] theorem updSlot_sched (i : SlotIdx) (f : Slot → Slot) (s : State) : (updSlot i f s).sched = s.sched := rfl
@[simp] theorem updSlot_panel (i : SlotIdx) (f : Slot → Slot) (s : State) : (updSlot i f s).panel = s.panel := rfl
@[simp] theorem updSlot_live (i : SlotIdx) (f : Slot → Slot) (s : State) : (updSlot i f s).live = s.live := rfl
@[simp] theorem updSlot_mem (i : SlotIdx) (f : Slot → Slot) (s : State) : (updSlot i f s).mem = s.mem := rfl
@[simp] theorem updSlot_eeprom (i : SlotIdx) (f : Slot → Slot) (s : State) : (updSlot i f s).eeprom = s.eeprom := rfl
@[simp] theorem updSlot_calib (i : SlotIdx) (f : Slot → Slot) (s : State) : (updSlot i f s).calib = s.calib := rfl
@[simp] theorem updSlot_tune (i : SlotIdx) (f : Slot → Slot) (s : State) : (updSlot i f s).tune = s.tune := rfl
@[simp] theorem updSlot_pins (i : SlotIdx) (f : Slot → Slot) (s : State) : (updSlot i f s).pins = s.pins := rfl
@[simp] theorem updSlot_freeCount (i : SlotIdx) (f : Slot → Slot) (s : State) : (updSlot i f s).freeCount = s.freeCount := rfl

@[simp] theorem updParam_now (p : Fin 16) (f : Param → Param) (s : State) : (updParam p f s).now = s.now := rfl
@[simp] theorem updParam_pending (p : Fin 16) (f : Param → Param) (s : State) : (updParam p f s).pending = s.pending := rfl
@[simp] theorem updParam_start (p : Fin 16) (f : Param → Param) (s : State) : (updParam p f s).start = s.start := rfl
@[simp] theorem updParam_link (p : Fin 16) (f : Param → Param) (s : State) : (updParam p f s).link = s.link := rfl
@[simp] theorem updParam_voices (p : Fin 16) (f : Param → Param) (s : State) : (updParam p f s).voices = s.voices := rfl
@[simp] theorem updParam_gates (p : Fin 16) (f : Param → Param) (s : State) : (updParam p f s).gates = s.gates := rfl
@[simp] theorem updParam_sources (p : Fin 16) (f : Param → Param) (s : State) : (updParam p f s).sources = s.sources := rfl
@[simp] theorem updParam_claims (p : Fin 16) (f : Param → Param) (s : State) : (updParam p f s).claims = s.claims := rfl
@[simp] theorem updParam_glides (p : Fin 16) (f : Param → Param) (s : State) : (updParam p f s).glides = s.glides := rfl
@[simp] theorem updParam_slots (p : Fin 16) (f : Param → Param) (s : State) : (updParam p f s).slots = s.slots := rfl
@[simp] theorem updParam_sched (p : Fin 16) (f : Param → Param) (s : State) : (updParam p f s).sched = s.sched := rfl
@[simp] theorem updParam_panel (p : Fin 16) (f : Param → Param) (s : State) : (updParam p f s).panel = s.panel := rfl
@[simp] theorem updParam_live (p : Fin 16) (f : Param → Param) (s : State) : (updParam p f s).live = updAt s.live p f := rfl
@[simp] theorem updParam_mem (p : Fin 16) (f : Param → Param) (s : State) : (updParam p f s).mem = s.mem := rfl
@[simp] theorem updParam_eeprom (p : Fin 16) (f : Param → Param) (s : State) : (updParam p f s).eeprom = s.eeprom := rfl
@[simp] theorem updParam_calib (p : Fin 16) (f : Param → Param) (s : State) : (updParam p f s).calib = s.calib := rfl
@[simp] theorem updParam_tune (p : Fin 16) (f : Param → Param) (s : State) : (updParam p f s).tune = s.tune := rfl
@[simp] theorem updParam_pins (p : Fin 16) (f : Param → Param) (s : State) : (updParam p f s).pins = s.pins := rfl
@[simp] theorem updParam_freeCount (p : Fin 16) (f : Param → Param) (s : State) : (updParam p f s).freeCount = s.freeCount := rfl

@[simp] theorem updCalib_now (u : VoiceIdx) (f : Calib → Calib) (s : State) : (updCalib u f s).now = s.now := rfl
@[simp] theorem updCalib_pending (u : VoiceIdx) (f : Calib → Calib) (s : State) : (updCalib u f s).pending = s.pending := rfl
@[simp] theorem updCalib_start (u : VoiceIdx) (f : Calib → Calib) (s : State) : (updCalib u f s).start = s.start := rfl
@[simp] theorem updCalib_link (u : VoiceIdx) (f : Calib → Calib) (s : State) : (updCalib u f s).link = s.link := rfl
@[simp] theorem updCalib_voices (u : VoiceIdx) (f : Calib → Calib) (s : State) : (updCalib u f s).voices = s.voices := rfl
@[simp] theorem updCalib_gates (u : VoiceIdx) (f : Calib → Calib) (s : State) : (updCalib u f s).gates = s.gates := rfl
@[simp] theorem updCalib_sources (u : VoiceIdx) (f : Calib → Calib) (s : State) : (updCalib u f s).sources = s.sources := rfl
@[simp] theorem updCalib_claims (u : VoiceIdx) (f : Calib → Calib) (s : State) : (updCalib u f s).claims = s.claims := rfl
@[simp] theorem updCalib_glides (u : VoiceIdx) (f : Calib → Calib) (s : State) : (updCalib u f s).glides = s.glides := rfl
@[simp] theorem updCalib_slots (u : VoiceIdx) (f : Calib → Calib) (s : State) : (updCalib u f s).slots = s.slots := rfl
@[simp] theorem updCalib_sched (u : VoiceIdx) (f : Calib → Calib) (s : State) : (updCalib u f s).sched = s.sched := rfl
@[simp] theorem updCalib_panel (u : VoiceIdx) (f : Calib → Calib) (s : State) : (updCalib u f s).panel = s.panel := rfl
@[simp] theorem updCalib_live (u : VoiceIdx) (f : Calib → Calib) (s : State) : (updCalib u f s).live = s.live := rfl
@[simp] theorem updCalib_mem (u : VoiceIdx) (f : Calib → Calib) (s : State) : (updCalib u f s).mem = s.mem := rfl
@[simp] theorem updCalib_eeprom (u : VoiceIdx) (f : Calib → Calib) (s : State) : (updCalib u f s).eeprom = s.eeprom := rfl
@[simp] theorem updCalib_calib (u : VoiceIdx) (f : Calib → Calib) (s : State) : (updCalib u f s).calib = updAt s.calib u f := rfl
@[simp] theorem updCalib_tune (u : VoiceIdx) (f : Calib → Calib) (s : State) : (updCalib u f s).tune = s.tune := rfl
@[simp] theorem updCalib_pins (u : VoiceIdx) (f : Calib → Calib) (s : State) : (updCalib u f s).pins = s.pins := rfl
@[simp] theorem updCalib_freeCount (u : VoiceIdx) (f : Calib → Calib) (s : State) : (updCalib u f s).freeCount = s.freeCount := rfl

@[simp] theorem updKnob_now (i : Fin 32) (f : Knob → Knob) (s : State) : (updKnob i f s).now = s.now := rfl
@[simp] theorem updKnob_pending (i : Fin 32) (f : Knob → Knob) (s : State) : (updKnob i f s).pending = s.pending := rfl
@[simp] theorem updKnob_start (i : Fin 32) (f : Knob → Knob) (s : State) : (updKnob i f s).start = s.start := rfl
@[simp] theorem updKnob_link (i : Fin 32) (f : Knob → Knob) (s : State) : (updKnob i f s).link = s.link := rfl
@[simp] theorem updKnob_voices (i : Fin 32) (f : Knob → Knob) (s : State) : (updKnob i f s).voices = s.voices := rfl
@[simp] theorem updKnob_gates (i : Fin 32) (f : Knob → Knob) (s : State) : (updKnob i f s).gates = s.gates := rfl
@[simp] theorem updKnob_sources (i : Fin 32) (f : Knob → Knob) (s : State) : (updKnob i f s).sources = s.sources := rfl
@[simp] theorem updKnob_claims (i : Fin 32) (f : Knob → Knob) (s : State) : (updKnob i f s).claims = s.claims := rfl
@[simp] theorem updKnob_glides (i : Fin 32) (f : Knob → Knob) (s : State) : (updKnob i f s).glides = s.glides := rfl
@[simp] theorem updKnob_slots (i : Fin 32) (f : Knob → Knob) (s : State) : (updKnob i f s).slots = s.slots := rfl
@[simp] theorem updKnob_sched (i : Fin 32) (f : Knob → Knob) (s : State) : (updKnob i f s).sched = s.sched := rfl
@[simp] theorem updKnob_panel (i : Fin 32) (f : Knob → Knob) (s : State) : (updKnob i f s).panel = { s.panel with knobs := updAt s.panel.knobs i f } := rfl
@[simp] theorem updKnob_live (i : Fin 32) (f : Knob → Knob) (s : State) : (updKnob i f s).live = s.live := rfl
@[simp] theorem updKnob_mem (i : Fin 32) (f : Knob → Knob) (s : State) : (updKnob i f s).mem = s.mem := rfl
@[simp] theorem updKnob_eeprom (i : Fin 32) (f : Knob → Knob) (s : State) : (updKnob i f s).eeprom = s.eeprom := rfl
@[simp] theorem updKnob_calib (i : Fin 32) (f : Knob → Knob) (s : State) : (updKnob i f s).calib = s.calib := rfl
@[simp] theorem updKnob_tune (i : Fin 32) (f : Knob → Knob) (s : State) : (updKnob i f s).tune = s.tune := rfl
@[simp] theorem updKnob_pins (i : Fin 32) (f : Knob → Knob) (s : State) : (updKnob i f s).pins = s.pins := rfl
@[simp] theorem updKnob_freeCount (i : Fin 32) (f : Knob → Knob) (s : State) : (updKnob i f s).freeCount = s.freeCount := rfl

@[simp] theorem updLink_now (f : Link → Link) (s : State) : (updLink f s).now = s.now := rfl
@[simp] theorem updLink_pending (f : Link → Link) (s : State) : (updLink f s).pending = s.pending := rfl
@[simp] theorem updLink_start (f : Link → Link) (s : State) : (updLink f s).start = s.start := rfl
@[simp] theorem updLink_link (f : Link → Link) (s : State) : (updLink f s).link = f s.link := rfl
@[simp] theorem updLink_voices (f : Link → Link) (s : State) : (updLink f s).voices = s.voices := rfl
@[simp] theorem updLink_gates (f : Link → Link) (s : State) : (updLink f s).gates = s.gates := rfl
@[simp] theorem updLink_sources (f : Link → Link) (s : State) : (updLink f s).sources = s.sources := rfl
@[simp] theorem updLink_claims (f : Link → Link) (s : State) : (updLink f s).claims = s.claims := rfl
@[simp] theorem updLink_glides (f : Link → Link) (s : State) : (updLink f s).glides = s.glides := rfl
@[simp] theorem updLink_slots (f : Link → Link) (s : State) : (updLink f s).slots = s.slots := rfl
@[simp] theorem updLink_sched (f : Link → Link) (s : State) : (updLink f s).sched = s.sched := rfl
@[simp] theorem updLink_panel (f : Link → Link) (s : State) : (updLink f s).panel = s.panel := rfl
@[simp] theorem updLink_live (f : Link → Link) (s : State) : (updLink f s).live = s.live := rfl
@[simp] theorem updLink_mem (f : Link → Link) (s : State) : (updLink f s).mem = s.mem := rfl
@[simp] theorem updLink_eeprom (f : Link → Link) (s : State) : (updLink f s).eeprom = s.eeprom := rfl
@[simp] theorem updLink_calib (f : Link → Link) (s : State) : (updLink f s).calib = s.calib := rfl
@[simp] theorem updLink_tune (f : Link → Link) (s : State) : (updLink f s).tune = s.tune := rfl
@[simp] theorem updLink_pins (f : Link → Link) (s : State) : (updLink f s).pins = s.pins := rfl
@[simp] theorem updLink_freeCount (f : Link → Link) (s : State) : (updLink f s).freeCount = s.freeCount := rfl

@[simp] theorem updStart_now (f : StartUp → StartUp) (s : State) : (updStart f s).now = s.now := rfl
@[simp] theorem updStart_pending (f : StartUp → StartUp) (s : State) : (updStart f s).pending = s.pending := rfl
@[simp] theorem updStart_start (f : StartUp → StartUp) (s : State) : (updStart f s).start = f s.start := rfl
@[simp] theorem updStart_link (f : StartUp → StartUp) (s : State) : (updStart f s).link = s.link := rfl
@[simp] theorem updStart_voices (f : StartUp → StartUp) (s : State) : (updStart f s).voices = s.voices := rfl
@[simp] theorem updStart_gates (f : StartUp → StartUp) (s : State) : (updStart f s).gates = s.gates := rfl
@[simp] theorem updStart_sources (f : StartUp → StartUp) (s : State) : (updStart f s).sources = s.sources := rfl
@[simp] theorem updStart_claims (f : StartUp → StartUp) (s : State) : (updStart f s).claims = s.claims := rfl
@[simp] theorem updStart_glides (f : StartUp → StartUp) (s : State) : (updStart f s).glides = s.glides := rfl
@[simp] theorem updStart_slots (f : StartUp → StartUp) (s : State) : (updStart f s).slots = s.slots := rfl
@[simp] theorem updStart_sched (f : StartUp → StartUp) (s : State) : (updStart f s).sched = s.sched := rfl
@[simp] theorem updStart_panel (f : StartUp → StartUp) (s : State) : (updStart f s).panel = s.panel := rfl
@[simp] theorem updStart_live (f : StartUp → StartUp) (s : State) : (updStart f s).live = s.live := rfl
@[simp] theorem updStart_mem (f : StartUp → StartUp) (s : State) : (updStart f s).mem = s.mem := rfl
@[simp] theorem updStart_eeprom (f : StartUp → StartUp) (s : State) : (updStart f s).eeprom = s.eeprom := rfl
@[simp] theorem updStart_calib (f : StartUp → StartUp) (s : State) : (updStart f s).calib = s.calib := rfl
@[simp] theorem updStart_tune (f : StartUp → StartUp) (s : State) : (updStart f s).tune = s.tune := rfl
@[simp] theorem updStart_pins (f : StartUp → StartUp) (s : State) : (updStart f s).pins = s.pins := rfl
@[simp] theorem updStart_freeCount (f : StartUp → StartUp) (s : State) : (updStart f s).freeCount = s.freeCount := rfl

@[simp] theorem updSched_now (f : Sched → Sched) (s : State) : (updSched f s).now = s.now := rfl
@[simp] theorem updSched_pending (f : Sched → Sched) (s : State) : (updSched f s).pending = s.pending := rfl
@[simp] theorem updSched_start (f : Sched → Sched) (s : State) : (updSched f s).start = s.start := rfl
@[simp] theorem updSched_link (f : Sched → Sched) (s : State) : (updSched f s).link = s.link := rfl
@[simp] theorem updSched_voices (f : Sched → Sched) (s : State) : (updSched f s).voices = s.voices := rfl
@[simp] theorem updSched_gates (f : Sched → Sched) (s : State) : (updSched f s).gates = s.gates := rfl
@[simp] theorem updSched_sources (f : Sched → Sched) (s : State) : (updSched f s).sources = s.sources := rfl
@[simp] theorem updSched_claims (f : Sched → Sched) (s : State) : (updSched f s).claims = s.claims := rfl
@[simp] theorem updSched_glides (f : Sched → Sched) (s : State) : (updSched f s).glides = s.glides := rfl
@[simp] theorem updSched_slots (f : Sched → Sched) (s : State) : (updSched f s).slots = s.slots := rfl
@[simp] theorem updSched_sched (f : Sched → Sched) (s : State) : (updSched f s).sched = f s.sched := rfl
@[simp] theorem updSched_panel (f : Sched → Sched) (s : State) : (updSched f s).panel = s.panel := rfl
@[simp] theorem updSched_live (f : Sched → Sched) (s : State) : (updSched f s).live = s.live := rfl
@[simp] theorem updSched_mem (f : Sched → Sched) (s : State) : (updSched f s).mem = s.mem := rfl
@[simp] theorem updSched_eeprom (f : Sched → Sched) (s : State) : (updSched f s).eeprom = s.eeprom := rfl
@[simp] theorem updSched_calib (f : Sched → Sched) (s : State) : (updSched f s).calib = s.calib := rfl
@[simp] theorem updSched_tune (f : Sched → Sched) (s : State) : (updSched f s).tune = s.tune := rfl
@[simp] theorem updSched_pins (f : Sched → Sched) (s : State) : (updSched f s).pins = s.pins := rfl
@[simp] theorem updSched_freeCount (f : Sched → Sched) (s : State) : (updSched f s).freeCount = s.freeCount := rfl

@[simp] theorem updPanel_now (f : Panel → Panel) (s : State) : (updPanel f s).now = s.now := rfl
@[simp] theorem updPanel_pending (f : Panel → Panel) (s : State) : (updPanel f s).pending = s.pending := rfl
@[simp] theorem updPanel_start (f : Panel → Panel) (s : State) : (updPanel f s).start = s.start := rfl
@[simp] theorem updPanel_link (f : Panel → Panel) (s : State) : (updPanel f s).link = s.link := rfl
@[simp] theorem updPanel_voices (f : Panel → Panel) (s : State) : (updPanel f s).voices = s.voices := rfl
@[simp] theorem updPanel_gates (f : Panel → Panel) (s : State) : (updPanel f s).gates = s.gates := rfl
@[simp] theorem updPanel_sources (f : Panel → Panel) (s : State) : (updPanel f s).sources = s.sources := rfl
@[simp] theorem updPanel_claims (f : Panel → Panel) (s : State) : (updPanel f s).claims = s.claims := rfl
@[simp] theorem updPanel_glides (f : Panel → Panel) (s : State) : (updPanel f s).glides = s.glides := rfl
@[simp] theorem updPanel_slots (f : Panel → Panel) (s : State) : (updPanel f s).slots = s.slots := rfl
@[simp] theorem updPanel_sched (f : Panel → Panel) (s : State) : (updPanel f s).sched = s.sched := rfl
@[simp] theorem updPanel_panel (f : Panel → Panel) (s : State) : (updPanel f s).panel = f s.panel := rfl
@[simp] theorem updPanel_live (f : Panel → Panel) (s : State) : (updPanel f s).live = s.live := rfl
@[simp] theorem updPanel_mem (f : Panel → Panel) (s : State) : (updPanel f s).mem = s.mem := rfl
@[simp] theorem updPanel_eeprom (f : Panel → Panel) (s : State) : (updPanel f s).eeprom = s.eeprom := rfl
@[simp] theorem updPanel_calib (f : Panel → Panel) (s : State) : (updPanel f s).calib = s.calib := rfl
@[simp] theorem updPanel_tune (f : Panel → Panel) (s : State) : (updPanel f s).tune = s.tune := rfl
@[simp] theorem updPanel_pins (f : Panel → Panel) (s : State) : (updPanel f s).pins = s.pins := rfl
@[simp] theorem updPanel_freeCount (f : Panel → Panel) (s : State) : (updPanel f s).freeCount = s.freeCount := rfl

@[simp] theorem updMem_now (f : MemCtl → MemCtl) (s : State) : (updMem f s).now = s.now := rfl
@[simp] theorem updMem_pending (f : MemCtl → MemCtl) (s : State) : (updMem f s).pending = s.pending := rfl
@[simp] theorem updMem_start (f : MemCtl → MemCtl) (s : State) : (updMem f s).start = s.start := rfl
@[simp] theorem updMem_link (f : MemCtl → MemCtl) (s : State) : (updMem f s).link = s.link := rfl
@[simp] theorem updMem_voices (f : MemCtl → MemCtl) (s : State) : (updMem f s).voices = s.voices := rfl
@[simp] theorem updMem_gates (f : MemCtl → MemCtl) (s : State) : (updMem f s).gates = s.gates := rfl
@[simp] theorem updMem_sources (f : MemCtl → MemCtl) (s : State) : (updMem f s).sources = s.sources := rfl
@[simp] theorem updMem_claims (f : MemCtl → MemCtl) (s : State) : (updMem f s).claims = s.claims := rfl
@[simp] theorem updMem_glides (f : MemCtl → MemCtl) (s : State) : (updMem f s).glides = s.glides := rfl
@[simp] theorem updMem_slots (f : MemCtl → MemCtl) (s : State) : (updMem f s).slots = s.slots := rfl
@[simp] theorem updMem_sched (f : MemCtl → MemCtl) (s : State) : (updMem f s).sched = s.sched := rfl
@[simp] theorem updMem_panel (f : MemCtl → MemCtl) (s : State) : (updMem f s).panel = s.panel := rfl
@[simp] theorem updMem_live (f : MemCtl → MemCtl) (s : State) : (updMem f s).live = s.live := rfl
@[simp] theorem updMem_mem (f : MemCtl → MemCtl) (s : State) : (updMem f s).mem = f s.mem := rfl
@[simp] theorem updMem_eeprom (f : MemCtl → MemCtl) (s : State) : (updMem f s).eeprom = s.eeprom := rfl
@[simp] theorem updMem_calib (f : MemCtl → MemCtl) (s : State) : (updMem f s).calib = s.calib := rfl
@[simp] theorem updMem_tune (f : MemCtl → MemCtl) (s : State) : (updMem f s).tune = s.tune := rfl
@[simp] theorem updMem_pins (f : MemCtl → MemCtl) (s : State) : (updMem f s).pins = s.pins := rfl
@[simp] theorem updMem_freeCount (f : MemCtl → MemCtl) (s : State) : (updMem f s).freeCount = s.freeCount := rfl

@[simp] theorem updTune_now (f : Tune → Tune) (s : State) : (updTune f s).now = s.now := rfl
@[simp] theorem updTune_pending (f : Tune → Tune) (s : State) : (updTune f s).pending = s.pending := rfl
@[simp] theorem updTune_start (f : Tune → Tune) (s : State) : (updTune f s).start = s.start := rfl
@[simp] theorem updTune_link (f : Tune → Tune) (s : State) : (updTune f s).link = s.link := rfl
@[simp] theorem updTune_voices (f : Tune → Tune) (s : State) : (updTune f s).voices = s.voices := rfl
@[simp] theorem updTune_gates (f : Tune → Tune) (s : State) : (updTune f s).gates = s.gates := rfl
@[simp] theorem updTune_sources (f : Tune → Tune) (s : State) : (updTune f s).sources = s.sources := rfl
@[simp] theorem updTune_claims (f : Tune → Tune) (s : State) : (updTune f s).claims = s.claims := rfl
@[simp] theorem updTune_glides (f : Tune → Tune) (s : State) : (updTune f s).glides = s.glides := rfl
@[simp] theorem updTune_slots (f : Tune → Tune) (s : State) : (updTune f s).slots = s.slots := rfl
@[simp] theorem updTune_sched (f : Tune → Tune) (s : State) : (updTune f s).sched = s.sched := rfl
@[simp] theorem updTune_panel (f : Tune → Tune) (s : State) : (updTune f s).panel = s.panel := rfl
@[simp] theorem updTune_live (f : Tune → Tune) (s : State) : (updTune f s).live = s.live := rfl
@[simp] theorem updTune_mem (f : Tune → Tune) (s : State) : (updTune f s).mem = s.mem := rfl
@[simp] theorem updTune_eeprom (f : Tune → Tune) (s : State) : (updTune f s).eeprom = s.eeprom := rfl
@[simp] theorem updTune_calib (f : Tune → Tune) (s : State) : (updTune f s).calib = s.calib := rfl
@[simp] theorem updTune_tune (f : Tune → Tune) (s : State) : (updTune f s).tune = f s.tune := rfl
@[simp] theorem updTune_pins (f : Tune → Tune) (s : State) : (updTune f s).pins = s.pins := rfl
@[simp] theorem updTune_freeCount (f : Tune → Tune) (s : State) : (updTune f s).freeCount = s.freeCount := rfl

@[simp] theorem updPins_now (f : Pins → Pins) (s : State) : (updPins f s).now = s.now := rfl
@[simp] theorem updPins_pending (f : Pins → Pins) (s : State) : (updPins f s).pending = s.pending := rfl
@[simp] theorem updPins_start (f : Pins → Pins) (s : State) : (updPins f s).start = s.start := rfl
@[simp] theorem updPins_link (f : Pins → Pins) (s : State) : (updPins f s).link = s.link := rfl
@[simp] theorem updPins_voices (f : Pins → Pins) (s : State) : (updPins f s).voices = s.voices := rfl
@[simp] theorem updPins_gates (f : Pins → Pins) (s : State) : (updPins f s).gates = s.gates := rfl
@[simp] theorem updPins_sources (f : Pins → Pins) (s : State) : (updPins f s).sources = s.sources := rfl
@[simp] theorem updPins_claims (f : Pins → Pins) (s : State) : (updPins f s).claims = s.claims := rfl
@[simp] theorem updPins_glides (f : Pins → Pins) (s : State) : (updPins f s).glides = s.glides := rfl
@[simp] theorem updPins_slots (f : Pins → Pins) (s : State) : (updPins f s).slots = s.slots := rfl
@[simp] theorem updPins_sched (f : Pins → Pins) (s : State) : (updPins f s).sched = s.sched := rfl
@[simp] theorem updPins_panel (f : Pins → Pins) (s : State) : (updPins f s).panel = s.panel := rfl
@[simp] theorem updPins_live (f : Pins → Pins) (s : State) : (updPins f s).live = s.live := rfl
@[simp] theorem updPins_mem (f : Pins → Pins) (s : State) : (updPins f s).mem = s.mem := rfl
@[simp] theorem updPins_eeprom (f : Pins → Pins) (s : State) : (updPins f s).eeprom = s.eeprom := rfl
@[simp] theorem updPins_calib (f : Pins → Pins) (s : State) : (updPins f s).calib = s.calib := rfl
@[simp] theorem updPins_tune (f : Pins → Pins) (s : State) : (updPins f s).tune = s.tune := rfl
@[simp] theorem updPins_pins (f : Pins → Pins) (s : State) : (updPins f s).pins = f s.pins := rfl
@[simp] theorem updPins_freeCount (f : Pins → Pins) (s : State) : (updPins f s).freeCount = s.freeCount := rfl

@[simp] theorem count_now (f : Counters → Counters) (s : State) : (count f s).now = s.now := rfl
@[simp] theorem count_pending (f : Counters → Counters) (s : State) : (count f s).pending = s.pending := rfl
@[simp] theorem count_start (f : Counters → Counters) (s : State) : (count f s).start = s.start := rfl
@[simp] theorem count_link (f : Counters → Counters) (s : State) : (count f s).link = { s.link with counters := f s.link.counters } := rfl
@[simp] theorem count_voices (f : Counters → Counters) (s : State) : (count f s).voices = s.voices := rfl
@[simp] theorem count_gates (f : Counters → Counters) (s : State) : (count f s).gates = s.gates := rfl
@[simp] theorem count_sources (f : Counters → Counters) (s : State) : (count f s).sources = s.sources := rfl
@[simp] theorem count_claims (f : Counters → Counters) (s : State) : (count f s).claims = s.claims := rfl
@[simp] theorem count_glides (f : Counters → Counters) (s : State) : (count f s).glides = s.glides := rfl
@[simp] theorem count_slots (f : Counters → Counters) (s : State) : (count f s).slots = s.slots := rfl
@[simp] theorem count_sched (f : Counters → Counters) (s : State) : (count f s).sched = s.sched := rfl
@[simp] theorem count_panel (f : Counters → Counters) (s : State) : (count f s).panel = s.panel := rfl
@[simp] theorem count_live (f : Counters → Counters) (s : State) : (count f s).live = s.live := rfl
@[simp] theorem count_mem (f : Counters → Counters) (s : State) : (count f s).mem = s.mem := rfl
@[simp] theorem count_eeprom (f : Counters → Counters) (s : State) : (count f s).eeprom = s.eeprom := rfl
@[simp] theorem count_calib (f : Counters → Counters) (s : State) : (count f s).calib = s.calib := rfl
@[simp] theorem count_tune (f : Counters → Counters) (s : State) : (count f s).tune = s.tune := rfl
@[simp] theorem count_pins (f : Counters → Counters) (s : State) : (count f s).pins = s.pins := rfl
@[simp] theorem count_freeCount (f : Counters → Counters) (s : State) : (count f s).freeCount = s.freeCount := rfl

@[simp] theorem setPlace_now (p : Place) (s : State) : (setPlace p s).now = s.now := rfl
@[simp] theorem setPlace_pending (p : Place) (s : State) : (setPlace p s).pending = s.pending := rfl
@[simp] theorem setPlace_start (p : Place) (s : State) : (setPlace p s).start = s.start := rfl
@[simp] theorem setPlace_link (p : Place) (s : State) : (setPlace p s).link = { s.link with place := p } := rfl
@[simp] theorem setPlace_voices (p : Place) (s : State) : (setPlace p s).voices = s.voices := rfl
@[simp] theorem setPlace_gates (p : Place) (s : State) : (setPlace p s).gates = s.gates := rfl
@[simp] theorem setPlace_sources (p : Place) (s : State) : (setPlace p s).sources = s.sources := rfl
@[simp] theorem setPlace_claims (p : Place) (s : State) : (setPlace p s).claims = s.claims := rfl
@[simp] theorem setPlace_glides (p : Place) (s : State) : (setPlace p s).glides = s.glides := rfl
@[simp] theorem setPlace_slots (p : Place) (s : State) : (setPlace p s).slots = s.slots := rfl
@[simp] theorem setPlace_sched (p : Place) (s : State) : (setPlace p s).sched = s.sched := rfl
@[simp] theorem setPlace_panel (p : Place) (s : State) : (setPlace p s).panel = s.panel := rfl
@[simp] theorem setPlace_live (p : Place) (s : State) : (setPlace p s).live = s.live := rfl
@[simp] theorem setPlace_mem (p : Place) (s : State) : (setPlace p s).mem = s.mem := rfl
@[simp] theorem setPlace_eeprom (p : Place) (s : State) : (setPlace p s).eeprom = s.eeprom := rfl
@[simp] theorem setPlace_calib (p : Place) (s : State) : (setPlace p s).calib = s.calib := rfl
@[simp] theorem setPlace_tune (p : Place) (s : State) : (setPlace p s).tune = s.tune := rfl
@[simp] theorem setPlace_pins (p : Place) (s : State) : (setPlace p s).pins = s.pins := rfl
@[simp] theorem setPlace_freeCount (p : Place) (s : State) : (setPlace p s).freeCount = s.freeCount := rfl

@[simp] theorem withPending_now (s : State) (q : List Instr) : (s.withPending q).now = s.now := rfl
@[simp] theorem withPending_pending (s : State) (q : List Instr) : (s.withPending q).pending = q := rfl
@[simp] theorem withPending_start (s : State) (q : List Instr) : (s.withPending q).start = s.start := rfl
@[simp] theorem withPending_link (s : State) (q : List Instr) : (s.withPending q).link = s.link := rfl
@[simp] theorem withPending_voices (s : State) (q : List Instr) : (s.withPending q).voices = s.voices := rfl
@[simp] theorem withPending_gates (s : State) (q : List Instr) : (s.withPending q).gates = s.gates := rfl
@[simp] theorem withPending_sources (s : State) (q : List Instr) : (s.withPending q).sources = s.sources := rfl
@[simp] theorem withPending_claims (s : State) (q : List Instr) : (s.withPending q).claims = s.claims := rfl
@[simp] theorem withPending_glides (s : State) (q : List Instr) : (s.withPending q).glides = s.glides := rfl
@[simp] theorem withPending_slots (s : State) (q : List Instr) : (s.withPending q).slots = s.slots := rfl
@[simp] theorem withPending_sched (s : State) (q : List Instr) : (s.withPending q).sched = s.sched := rfl
@[simp] theorem withPending_panel (s : State) (q : List Instr) : (s.withPending q).panel = s.panel := rfl
@[simp] theorem withPending_live (s : State) (q : List Instr) : (s.withPending q).live = s.live := rfl
@[simp] theorem withPending_mem (s : State) (q : List Instr) : (s.withPending q).mem = s.mem := rfl
@[simp] theorem withPending_eeprom (s : State) (q : List Instr) : (s.withPending q).eeprom = s.eeprom := rfl
@[simp] theorem withPending_calib (s : State) (q : List Instr) : (s.withPending q).calib = s.calib := rfl
@[simp] theorem withPending_tune (s : State) (q : List Instr) : (s.withPending q).tune = s.tune := rfl
@[simp] theorem withPending_pins (s : State) (q : List Instr) : (s.withPending q).pins = s.pins := rfl
@[simp] theorem withPending_freeCount (s : State) (q : List Instr) : (s.withPending q).freeCount = s.freeCount := rfl

end Sys2Proof.Machine
end

