-- ==== Sys2Proof/Laws/Ops.lean ====
section
/-!
SUPPORT. For each shared operation, once, everything it leaves unchanged; provers cite these and do not unfold the operation.
-/
namespace Sys2Proof.Machine
open Sys2Proof
set_option Elab.async false

/-- A fold over voices keeps what each application keeps. -/
theorem forVoices_keeps {P : State → Prop} {f : VoiceIdx → State → State} {s : State}
    (step : ∀ u t, P t → P (f u t)) (h : P s) : P (forVoices f s) := by
  unfold forVoices
  have key : ∀ (l : List VoiceIdx) (t : State), P t → P (l.foldl (fun t u => if served t u then f u t else t) t) := by
    intro l
    induction l with
    | nil => intro t ht; exact ht
    | cons u l ih =>
      intro t ht
      apply ih
      by_cases hs : served t u = true
      · simp only [hs, if_true]; exact step u t ht
      · simp only [hs]; exact ht
  exact key _ _ h

/-- A fold keeps what each application keeps. -/
theorem foldl_keeps {α : Type} {P : State → Prop} {f : State → α → State} {l : List α} {s : State}
    (step : ∀ t a, P t → P (f t a)) (h : P s) : P (l.foldl f s) := by
  induction l generalizing s with
  | nil => exact h
  | cons a l ih => exact ih (step s a h)

/-- `handRanked` changes only: link. -/
@[simp] theorem handRanked_keeps (f : Frame) (r : Nat) (s : State) :
    (handRanked f r s).now = s.now ∧ (handRanked f r s).pending = s.pending ∧ (handRanked f r s).start = s.start ∧ (handRanked f r s).voices = s.voices ∧ (handRanked f r s).gates = s.gates ∧ (handRanked f r s).sources = s.sources ∧ (handRanked f r s).claims = s.claims ∧ (handRanked f r s).glides = s.glides ∧ (handRanked f r s).slots = s.slots ∧ (handRanked f r s).sched = s.sched ∧ (handRanked f r s).panel = s.panel ∧ (handRanked f r s).live = s.live ∧ (handRanked f r s).mem = s.mem ∧ (handRanked f r s).eeprom = s.eeprom ∧ (handRanked f r s).calib = s.calib ∧ (handRanked f r s).tune = s.tune ∧ (handRanked f r s).pins = s.pins ∧ (handRanked f r s).freeCount = s.freeCount := by
  unfold handRanked; split
  · split
    · split <;> simp
    · simp
  · simp

/-- `hand` changes only: link. -/
@[simp] theorem hand_keeps (f : Frame) (s : State) :
    (hand f s).now = s.now ∧ (hand f s).pending = s.pending ∧ (hand f s).start = s.start ∧ (hand f s).voices = s.voices ∧ (hand f s).gates = s.gates ∧ (hand f s).sources = s.sources ∧ (hand f s).claims = s.claims ∧ (hand f s).glides = s.glides ∧ (hand f s).slots = s.slots ∧ (hand f s).sched = s.sched ∧ (hand f s).panel = s.panel ∧ (hand f s).live = s.live ∧ (hand f s).mem = s.mem ∧ (hand f s).eeprom = s.eeprom ∧ (hand f s).calib = s.calib ∧ (hand f s).tune = s.tune ∧ (hand f s).pins = s.pins ∧ (hand f s).freeCount = s.freeCount := by
  unfold hand; simp

/-- `handAll` changes only: link. -/
@[simp] theorem handAll_keeps (fs : List Frame) (s : State) :
    (handAll fs s).now = s.now ∧ (handAll fs s).pending = s.pending ∧ (handAll fs s).start = s.start ∧ (handAll fs s).voices = s.voices ∧ (handAll fs s).gates = s.gates ∧ (handAll fs s).sources = s.sources ∧ (handAll fs s).claims = s.claims ∧ (handAll fs s).glides = s.glides ∧ (handAll fs s).slots = s.slots ∧ (handAll fs s).sched = s.sched ∧ (handAll fs s).panel = s.panel ∧ (handAll fs s).live = s.live ∧ (handAll fs s).mem = s.mem ∧ (handAll fs s).eeprom = s.eeprom ∧ (handAll fs s).calib = s.calib ∧ (handAll fs s).tune = s.tune ∧ (handAll fs s).pins = s.pins ∧ (handAll fs s).freeCount = s.freeCount := by
  unfold handAll
  refine foldl_keeps (P := fun t => t.now = s.now ∧ t.pending = s.pending ∧ t.start = s.start ∧ t.voices = s.voices ∧ t.gates = s.gates ∧ t.sources = s.sources ∧ t.claims = s.claims ∧ t.glides = s.glides ∧ t.slots = s.slots ∧ t.sched = s.sched ∧ t.panel = s.panel ∧ t.live = s.live ∧ t.mem = s.mem ∧ t.eeprom = s.eeprom ∧ t.calib = s.calib ∧ t.tune = s.tune ∧ t.pins = s.pins ∧ t.freeCount = s.freeCount) ?_ (by simp)
  intro t f h; simp [h]

/-- `withdraw` changes only: link. -/
@[simp] theorem withdraw_keeps (sel : Frame → Bool) (s : State) :
    (withdraw sel s).now = s.now ∧ (withdraw sel s).pending = s.pending ∧ (withdraw sel s).start = s.start ∧ (withdraw sel s).voices = s.voices ∧ (withdraw sel s).gates = s.gates ∧ (withdraw sel s).sources = s.sources ∧ (withdraw sel s).claims = s.claims ∧ (withdraw sel s).glides = s.glides ∧ (withdraw sel s).slots = s.slots ∧ (withdraw sel s).sched = s.sched ∧ (withdraw sel s).panel = s.panel ∧ (withdraw sel s).live = s.live ∧ (withdraw sel s).mem = s.mem ∧ (withdraw sel s).eeprom = s.eeprom ∧ (withdraw sel s).calib = s.calib ∧ (withdraw sel s).tune = s.tune ∧ (withdraw sel s).pins = s.pins ∧ (withdraw sel s).freeCount = s.freeCount := by
  unfold withdraw; simp

/-- `dropClaims` changes only: claims, voices. -/
@[simp] theorem dropClaims_keeps (sel : Claim → Bool) (s : State) :
    (dropClaims sel s).now = s.now ∧ (dropClaims sel s).pending = s.pending ∧ (dropClaims sel s).start = s.start ∧ (dropClaims sel s).link = s.link ∧ (dropClaims sel s).gates = s.gates ∧ (dropClaims sel s).sources = s.sources ∧ (dropClaims sel s).glides = s.glides ∧ (dropClaims sel s).slots = s.slots ∧ (dropClaims sel s).sched = s.sched ∧ (dropClaims sel s).panel = s.panel ∧ (dropClaims sel s).live = s.live ∧ (dropClaims sel s).mem = s.mem ∧ (dropClaims sel s).eeprom = s.eeprom ∧ (dropClaims sel s).calib = s.calib ∧ (dropClaims sel s).tune = s.tune ∧ (dropClaims sel s).pins = s.pins ∧ (dropClaims sel s).freeCount = s.freeCount := by
  unfold dropClaims; simp

/-- `withdrawClaims` changes only: link, claims, voices. -/
@[simp] theorem withdrawClaims_keeps (sel : Claim → Bool) (s : State) :
    (withdrawClaims sel s).now = s.now ∧ (withdrawClaims sel s).pending = s.pending ∧ (withdrawClaims sel s).start = s.start ∧ (withdrawClaims sel s).gates = s.gates ∧ (withdrawClaims sel s).sources = s.sources ∧ (withdrawClaims sel s).glides = s.glides ∧ (withdrawClaims sel s).slots = s.slots ∧ (withdrawClaims sel s).sched = s.sched ∧ (withdrawClaims sel s).panel = s.panel ∧ (withdrawClaims sel s).live = s.live ∧ (withdrawClaims sel s).mem = s.mem ∧ (withdrawClaims sel s).eeprom = s.eeprom ∧ (withdrawClaims sel s).calib = s.calib ∧ (withdrawClaims sel s).tune = s.tune ∧ (withdrawClaims sel s).pins = s.pins ∧ (withdrawClaims sel s).freeCount = s.freeCount := by
  unfold withdrawClaims; simp

/-- `emptyClaims` changes only: link, claims, voices. -/
@[simp] theorem emptyClaims_keeps (s : State) :
    (emptyClaims s).now = s.now ∧ (emptyClaims s).pending = s.pending ∧ (emptyClaims s).start = s.start ∧ (emptyClaims s).gates = s.gates ∧ (emptyClaims s).sources = s.sources ∧ (emptyClaims s).glides = s.glides ∧ (emptyClaims s).slots = s.slots ∧ (emptyClaims s).sched = s.sched ∧ (emptyClaims s).panel = s.panel ∧ (emptyClaims s).live = s.live ∧ (emptyClaims s).mem = s.mem ∧ (emptyClaims s).eeprom = s.eeprom ∧ (emptyClaims s).calib = s.calib ∧ (emptyClaims s).tune = s.tune ∧ (emptyClaims s).pins = s.pins ∧ (emptyClaims s).freeCount = s.freeCount := by
  unfold emptyClaims; simp

/-- `post` changes only: slots. -/
@[simp] theorem post_keeps (i : SlotIdx) (c : Code) (g : Group) (a m : Bool) (s : State) :
    (post i c g a m s).now = s.now ∧ (post i c g a m s).pending = s.pending ∧ (post i c g a m s).start = s.start ∧ (post i c g a m s).link = s.link ∧ (post i c g a m s).voices = s.voices ∧ (post i c g a m s).gates = s.gates ∧ (post i c g a m s).sources = s.sources ∧ (post i c g a m s).claims = s.claims ∧ (post i c g a m s).glides = s.glides ∧ (post i c g a m s).sched = s.sched ∧ (post i c g a m s).panel = s.panel ∧ (post i c g a m s).live = s.live ∧ (post i c g a m s).mem = s.mem ∧ (post i c g a m s).eeprom = s.eeprom ∧ (post i c g a m s).calib = s.calib ∧ (post i c g a m s).tune = s.tune ∧ (post i c g a m s).pins = s.pins ∧ (post i c g a m s).freeCount = s.freeCount := by
  unfold post; simp

/-- `postIfDiffers` changes only: slots. -/
@[simp] theorem postIfDiffers_keeps (i : SlotIdx) (c : Code) (g : Group) (s : State) :
    (postIfDiffers i c g s).now = s.now ∧ (postIfDiffers i c g s).pending = s.pending ∧ (postIfDiffers i c g s).start = s.start ∧ (postIfDiffers i c g s).link = s.link ∧ (postIfDiffers i c g s).voices = s.voices ∧ (postIfDiffers i c g s).gates = s.gates ∧ (postIfDiffers i c g s).sources = s.sources ∧ (postIfDiffers i c g s).claims = s.claims ∧ (postIfDiffers i c g s).glides = s.glides ∧ (postIfDiffers i c g s).sched = s.sched ∧ (postIfDiffers i c g s).panel = s.panel ∧ (postIfDiffers i c g s).live = s.live ∧ (postIfDiffers i c g s).mem = s.mem ∧ (postIfDiffers i c g s).eeprom = s.eeprom ∧ (postIfDiffers i c g s).calib = s.calib ∧ (postIfDiffers i c g s).tune = s.tune ∧ (postIfDiffers i c g s).pins = s.pins ∧ (postIfDiffers i c g s).freeCount = s.freeCount := by
  unfold postIfDiffers; split <;> simp

/-- `cancelAssign` changes only: slots. -/
@[simp] theorem cancelAssign_keeps (u : VoiceIdx) (s : State) :
    (cancelAssign u s).now = s.now ∧ (cancelAssign u s).pending = s.pending ∧ (cancelAssign u s).start = s.start ∧ (cancelAssign u s).link = s.link ∧ (cancelAssign u s).voices = s.voices ∧ (cancelAssign u s).gates = s.gates ∧ (cancelAssign u s).sources = s.sources ∧ (cancelAssign u s).claims = s.claims ∧ (cancelAssign u s).glides = s.glides ∧ (cancelAssign u s).sched = s.sched ∧ (cancelAssign u s).panel = s.panel ∧ (cancelAssign u s).live = s.live ∧ (cancelAssign u s).mem = s.mem ∧ (cancelAssign u s).eeprom = s.eeprom ∧ (cancelAssign u s).calib = s.calib ∧ (cancelAssign u s).tune = s.tune ∧ (cancelAssign u s).pins = s.pins ∧ (cancelAssign u s).freeCount = s.freeCount := by
  unfold cancelAssign; simp

/-- `cancelMeasure` changes only: slots. -/
@[simp] theorem cancelMeasure_keeps (u : VoiceIdx) (s : State) :
    (cancelMeasure u s).now = s.now ∧ (cancelMeasure u s).pending = s.pending ∧ (cancelMeasure u s).start = s.start ∧ (cancelMeasure u s).link = s.link ∧ (cancelMeasure u s).voices = s.voices ∧ (cancelMeasure u s).gates = s.gates ∧ (cancelMeasure u s).sources = s.sources ∧ (cancelMeasure u s).claims = s.claims ∧ (cancelMeasure u s).glides = s.glides ∧ (cancelMeasure u s).sched = s.sched ∧ (cancelMeasure u s).panel = s.panel ∧ (cancelMeasure u s).live = s.live ∧ (cancelMeasure u s).mem = s.mem ∧ (cancelMeasure u s).eeprom = s.eeprom ∧ (cancelMeasure u s).calib = s.calib ∧ (cancelMeasure u s).tune = s.tune ∧ (cancelMeasure u s).pins = s.pins ∧ (cancelMeasure u s).freeCount = s.freeCount := by
  unfold cancelMeasure; simp

/-- `noteClamp` changes only: glides. -/
@[simp] theorem noteClamp_keeps (u : VoiceIdx) (cs : List (Fin 8)) (s : State) :
    (noteClamp u cs s).now = s.now ∧ (noteClamp u cs s).pending = s.pending ∧ (noteClamp u cs s).start = s.start ∧ (noteClamp u cs s).link = s.link ∧ (noteClamp u cs s).voices = s.voices ∧ (noteClamp u cs s).gates = s.gates ∧ (noteClamp u cs s).sources = s.sources ∧ (noteClamp u cs s).claims = s.claims ∧ (noteClamp u cs s).slots = s.slots ∧ (noteClamp u cs s).sched = s.sched ∧ (noteClamp u cs s).panel = s.panel ∧ (noteClamp u cs s).live = s.live ∧ (noteClamp u cs s).mem = s.mem ∧ (noteClamp u cs s).eeprom = s.eeprom ∧ (noteClamp u cs s).calib = s.calib ∧ (noteClamp u cs s).tune = s.tune ∧ (noteClamp u cs s).pins = s.pins ∧ (noteClamp u cs s).freeCount = s.freeCount := by
  unfold noteClamp; split <;> simp

/-- One recomputed channel changes only the slots. -/
@[simp] theorem recomputeChannel_keeps (u : VoiceIdx) (c : Fin 8) (s : State) :
    (recomputeChannel u s c).now = s.now ∧ (recomputeChannel u s c).pending = s.pending ∧ (recomputeChannel u s c).start = s.start ∧ (recomputeChannel u s c).link = s.link ∧ (recomputeChannel u s c).voices = s.voices ∧ (recomputeChannel u s c).gates = s.gates ∧ (recomputeChannel u s c).sources = s.sources ∧ (recomputeChannel u s c).claims = s.claims ∧ (recomputeChannel u s c).glides = s.glides ∧ (recomputeChannel u s c).sched = s.sched ∧ (recomputeChannel u s c).panel = s.panel ∧ (recomputeChannel u s c).live = s.live ∧ (recomputeChannel u s c).mem = s.mem ∧ (recomputeChannel u s c).eeprom = s.eeprom ∧ (recomputeChannel u s c).calib = s.calib ∧ (recomputeChannel u s c).tune = s.tune ∧ (recomputeChannel u s c).pins = s.pins ∧ (recomputeChannel u s c).freeCount = s.freeCount := by
  unfold recomputeChannel; split <;> simp

/-- `recompute` changes only: slots, glides. -/
@[simp] theorem recompute_keeps (u : VoiceIdx) (cs : List (Fin 8)) (s : State) :
    (recompute u cs s).now = s.now ∧ (recompute u cs s).pending = s.pending ∧ (recompute u cs s).start = s.start ∧ (recompute u cs s).link = s.link ∧ (recompute u cs s).voices = s.voices ∧ (recompute u cs s).gates = s.gates ∧ (recompute u cs s).sources = s.sources ∧ (recompute u cs s).claims = s.claims ∧ (recompute u cs s).sched = s.sched ∧ (recompute u cs s).panel = s.panel ∧ (recompute u cs s).live = s.live ∧ (recompute u cs s).mem = s.mem ∧ (recompute u cs s).eeprom = s.eeprom ∧ (recompute u cs s).calib = s.calib ∧ (recompute u cs s).tune = s.tune ∧ (recompute u cs s).pins = s.pins ∧ (recompute u cs s).freeCount = s.freeCount := by
  unfold recompute
  split
  · refine foldl_keeps (P := fun t => t.now = s.now ∧ t.pending = s.pending ∧ t.start = s.start ∧ t.link = s.link ∧ t.voices = s.voices ∧ t.gates = s.gates ∧ t.sources = s.sources ∧ t.claims = s.claims ∧ t.sched = s.sched ∧ t.panel = s.panel ∧ t.live = s.live ∧ t.mem = s.mem ∧ t.eeprom = s.eeprom ∧ t.calib = s.calib ∧ t.tune = s.tune ∧ t.pins = s.pins ∧ t.freeCount = s.freeCount) ?_ (by simp)
    intro t c h; simp [h]
  · simp

/-- `recomputeSource` changes only: slots, glides. -/
@[simp] theorem recomputeSource_keeps (src : Station) (s : State) :
    (recomputeSource src s).now = s.now ∧ (recomputeSource src s).pending = s.pending ∧ (recomputeSource src s).start = s.start ∧ (recomputeSource src s).link = s.link ∧ (recomputeSource src s).voices = s.voices ∧ (recomputeSource src s).gates = s.gates ∧ (recomputeSource src s).sources = s.sources ∧ (recomputeSource src s).claims = s.claims ∧ (recomputeSource src s).sched = s.sched ∧ (recomputeSource src s).panel = s.panel ∧ (recomputeSource src s).live = s.live ∧ (recomputeSource src s).mem = s.mem ∧ (recomputeSource src s).eeprom = s.eeprom ∧ (recomputeSource src s).calib = s.calib ∧ (recomputeSource src s).tune = s.tune ∧ (recomputeSource src s).pins = s.pins ∧ (recomputeSource src s).freeCount = s.freeCount := by
  unfold recomputeSource
  refine forVoices_keeps (P := fun t => t.now = s.now ∧ t.pending = s.pending ∧ t.start = s.start ∧ t.link = s.link ∧ t.voices = s.voices ∧ t.gates = s.gates ∧ t.sources = s.sources ∧ t.claims = s.claims ∧ t.sched = s.sched ∧ t.panel = s.panel ∧ t.live = s.live ∧ t.mem = s.mem ∧ t.eeprom = s.eeprom ∧ t.calib = s.calib ∧ t.tune = s.tune ∧ t.pins = s.pins ∧ t.freeCount = s.freeCount) ?_ (by simp)
  intro u t h
  split
  · split <;> simp [h]
  · simp [h]

/-- `retarget` changes only: glides. -/
@[simp] theorem retarget_keeps (u : VoiceIdx) (s : State) :
    (retarget u s).now = s.now ∧ (retarget u s).pending = s.pending ∧ (retarget u s).start = s.start ∧ (retarget u s).link = s.link ∧ (retarget u s).voices = s.voices ∧ (retarget u s).gates = s.gates ∧ (retarget u s).sources = s.sources ∧ (retarget u s).claims = s.claims ∧ (retarget u s).slots = s.slots ∧ (retarget u s).sched = s.sched ∧ (retarget u s).panel = s.panel ∧ (retarget u s).live = s.live ∧ (retarget u s).mem = s.mem ∧ (retarget u s).eeprom = s.eeprom ∧ (retarget u s).calib = s.calib ∧ (retarget u s).tune = s.tune ∧ (retarget u s).pins = s.pins ∧ (retarget u s).freeCount = s.freeCount := by
  unfold retarget
  split
  · split <;> simp
  · simp

/-- `paramsChanged` changes only: slots, glides. -/
@[simp] theorem paramsChanged_keeps (ps : List (Fin 16)) (s : State) :
    (paramsChanged ps s).now = s.now ∧ (paramsChanged ps s).pending = s.pending ∧ (paramsChanged ps s).start = s.start ∧ (paramsChanged ps s).link = s.link ∧ (paramsChanged ps s).voices = s.voices ∧ (paramsChanged ps s).gates = s.gates ∧ (paramsChanged ps s).sources = s.sources ∧ (paramsChanged ps s).claims = s.claims ∧ (paramsChanged ps s).sched = s.sched ∧ (paramsChanged ps s).panel = s.panel ∧ (paramsChanged ps s).live = s.live ∧ (paramsChanged ps s).mem = s.mem ∧ (paramsChanged ps s).eeprom = s.eeprom ∧ (paramsChanged ps s).calib = s.calib ∧ (paramsChanged ps s).tune = s.tune ∧ (paramsChanged ps s).pins = s.pins ∧ (paramsChanged ps s).freeCount = s.freeCount := by
  unfold paramsChanged
  refine forVoices_keeps (P := fun t => t.now = s.now ∧ t.pending = s.pending ∧ t.start = s.start ∧ t.link = s.link ∧ t.voices = s.voices ∧ t.gates = s.gates ∧ t.sources = s.sources ∧ t.claims = s.claims ∧ t.sched = s.sched ∧ t.panel = s.panel ∧ t.live = s.live ∧ t.mem = s.mem ∧ t.eeprom = s.eeprom ∧ t.calib = s.calib ∧ t.tune = s.tune ∧ t.pins = s.pins ∧ t.freeCount = s.freeCount) (by intro u t h; simp [h]) ?_
  split
  · exact forVoices_keeps (P := fun t => t.now = s.now ∧ t.pending = s.pending ∧ t.start = s.start ∧ t.link = s.link ∧ t.voices = s.voices ∧ t.gates = s.gates ∧ t.sources = s.sources ∧ t.claims = s.claims ∧ t.sched = s.sched ∧ t.panel = s.panel ∧ t.live = s.live ∧ t.mem = s.mem ∧ t.eeprom = s.eeprom ∧ t.calib = s.calib ∧ t.tune = s.tune ∧ t.pins = s.pins ∧ t.freeCount = s.freeCount) (by intro u t h; simp [h]) (by simp)
  · simp

/-- `fullPost` changes only: slots, glides. -/
@[simp] theorem fullPost_keeps (u : VoiceIdx) (s : State) :
    (fullPost u s).now = s.now ∧ (fullPost u s).pending = s.pending ∧ (fullPost u s).start = s.start ∧ (fullPost u s).link = s.link ∧ (fullPost u s).voices = s.voices ∧ (fullPost u s).gates = s.gates ∧ (fullPost u s).sources = s.sources ∧ (fullPost u s).claims = s.claims ∧ (fullPost u s).sched = s.sched ∧ (fullPost u s).panel = s.panel ∧ (fullPost u s).live = s.live ∧ (fullPost u s).mem = s.mem ∧ (fullPost u s).eeprom = s.eeprom ∧ (fullPost u s).calib = s.calib ∧ (fullPost u s).tune = s.tune ∧ (fullPost u s).pins = s.pins ∧ (fullPost u s).freeCount = s.freeCount := by
  unfold fullPost
  refine foldl_keeps (P := fun t => t.now = s.now ∧ t.pending = s.pending ∧ t.start = s.start ∧ t.link = s.link ∧ t.voices = s.voices ∧ t.gates = s.gates ∧ t.sources = s.sources ∧ t.claims = s.claims ∧ t.sched = s.sched ∧ t.panel = s.panel ∧ t.live = s.live ∧ t.mem = s.mem ∧ t.eeprom = s.eeprom ∧ t.calib = s.calib ∧ t.tune = s.tune ∧ t.pins = s.pins ∧ t.freeCount = s.freeCount) ?_ (by simp)
  intro t c h; simp [h]

/-- `fullPostAll` changes only: slots, glides. -/
@[simp] theorem fullPostAll_keeps (s : State) :
    (fullPostAll s).now = s.now ∧ (fullPostAll s).pending = s.pending ∧ (fullPostAll s).start = s.start ∧ (fullPostAll s).link = s.link ∧ (fullPostAll s).voices = s.voices ∧ (fullPostAll s).gates = s.gates ∧ (fullPostAll s).sources = s.sources ∧ (fullPostAll s).claims = s.claims ∧ (fullPostAll s).sched = s.sched ∧ (fullPostAll s).panel = s.panel ∧ (fullPostAll s).live = s.live ∧ (fullPostAll s).mem = s.mem ∧ (fullPostAll s).eeprom = s.eeprom ∧ (fullPostAll s).calib = s.calib ∧ (fullPostAll s).tune = s.tune ∧ (fullPostAll s).pins = s.pins ∧ (fullPostAll s).freeCount = s.freeCount := by
  unfold fullPostAll
  refine forVoices_keeps (P := fun t => t.now = s.now ∧ t.pending = s.pending ∧ t.start = s.start ∧ t.link = s.link ∧ t.voices = s.voices ∧ t.gates = s.gates ∧ t.sources = s.sources ∧ t.claims = s.claims ∧ t.sched = s.sched ∧ t.panel = s.panel ∧ t.live = s.live ∧ t.mem = s.mem ∧ t.eeprom = s.eeprom ∧ t.calib = s.calib ∧ t.tune = s.tune ∧ t.pins = s.pins ∧ t.freeCount = s.freeCount) ?_ (by simp)
  intro u t h; simp [h]

/-- `assignGlide` changes only: glides. -/
@[simp] theorem assignGlide_keeps (u : VoiceIdx) (n : Note) (s : State) :
    (assignGlide u n s).now = s.now ∧ (assignGlide u n s).pending = s.pending ∧ (assignGlide u n s).start = s.start ∧ (assignGlide u n s).link = s.link ∧ (assignGlide u n s).voices = s.voices ∧ (assignGlide u n s).gates = s.gates ∧ (assignGlide u n s).sources = s.sources ∧ (assignGlide u n s).claims = s.claims ∧ (assignGlide u n s).slots = s.slots ∧ (assignGlide u n s).sched = s.sched ∧ (assignGlide u n s).panel = s.panel ∧ (assignGlide u n s).live = s.live ∧ (assignGlide u n s).mem = s.mem ∧ (assignGlide u n s).eeprom = s.eeprom ∧ (assignGlide u n s).calib = s.calib ∧ (assignGlide u n s).tune = s.tune ∧ (assignGlide u n s).pins = s.pins ∧ (assignGlide u n s).freeCount = s.freeCount := by
  unfold assignGlide; simp

/-- `assignPitch` changes only: slots, glides. -/
@[simp] theorem assignPitch_keeps (u : VoiceIdx) (n : Note) (s : State) :
    (assignPitch u n s).now = s.now ∧ (assignPitch u n s).pending = s.pending ∧ (assignPitch u n s).start = s.start ∧ (assignPitch u n s).link = s.link ∧ (assignPitch u n s).voices = s.voices ∧ (assignPitch u n s).gates = s.gates ∧ (assignPitch u n s).sources = s.sources ∧ (assignPitch u n s).claims = s.claims ∧ (assignPitch u n s).sched = s.sched ∧ (assignPitch u n s).panel = s.panel ∧ (assignPitch u n s).live = s.live ∧ (assignPitch u n s).mem = s.mem ∧ (assignPitch u n s).eeprom = s.eeprom ∧ (assignPitch u n s).calib = s.calib ∧ (assignPitch u n s).tune = s.tune ∧ (assignPitch u n s).pins = s.pins ∧ (assignPitch u n s).freeCount = s.freeCount := by
  unfold assignPitch; simp only []; split <;> simp

/-- `forceLevel` changes only: slots. -/
@[simp] theorem forceLevel_keeps (u : VoiceIdx) (s : State) :
    (forceLevel u s).now = s.now ∧ (forceLevel u s).pending = s.pending ∧ (forceLevel u s).start = s.start ∧ (forceLevel u s).link = s.link ∧ (forceLevel u s).voices = s.voices ∧ (forceLevel u s).gates = s.gates ∧ (forceLevel u s).sources = s.sources ∧ (forceLevel u s).claims = s.claims ∧ (forceLevel u s).glides = s.glides ∧ (forceLevel u s).sched = s.sched ∧ (forceLevel u s).panel = s.panel ∧ (forceLevel u s).live = s.live ∧ (forceLevel u s).mem = s.mem ∧ (forceLevel u s).eeprom = s.eeprom ∧ (forceLevel u s).calib = s.calib ∧ (forceLevel u s).tune = s.tune ∧ (forceLevel u s).pins = s.pins ∧ (forceLevel u s).freeCount = s.freeCount := by
  unfold forceLevel; simp

/-- `enterTunePitch` changes only: slots, glides. -/
@[simp] theorem enterTunePitch_keeps (u : VoiceIdx) (s : State) :
    (enterTunePitch u s).now = s.now ∧ (enterTunePitch u s).pending = s.pending ∧ (enterTunePitch u s).start = s.start ∧ (enterTunePitch u s).link = s.link ∧ (enterTunePitch u s).voices = s.voices ∧ (enterTunePitch u s).gates = s.gates ∧ (enterTunePitch u s).sources = s.sources ∧ (enterTunePitch u s).claims = s.claims ∧ (enterTunePitch u s).sched = s.sched ∧ (enterTunePitch u s).panel = s.panel ∧ (enterTunePitch u s).live = s.live ∧ (enterTunePitch u s).mem = s.mem ∧ (enterTunePitch u s).eeprom = s.eeprom ∧ (enterTunePitch u s).calib = s.calib ∧ (enterTunePitch u s).tune = s.tune ∧ (enterTunePitch u s).pins = s.pins ∧ (enterTunePitch u s).freeCount = s.freeCount := by
  unfold enterTunePitch; simp

/-- `glideStep` changes only: slots, glides. -/
@[simp] theorem glideStep_keeps (u : VoiceIdx) (d : Nat) (s : State) :
    (glideStep u d s).now = s.now ∧ (glideStep u d s).pending = s.pending ∧ (glideStep u d s).start = s.start ∧ (glideStep u d s).link = s.link ∧ (glideStep u d s).voices = s.voices ∧ (glideStep u d s).gates = s.gates ∧ (glideStep u d s).sources = s.sources ∧ (glideStep u d s).claims = s.claims ∧ (glideStep u d s).sched = s.sched ∧ (glideStep u d s).panel = s.panel ∧ (glideStep u d s).live = s.live ∧ (glideStep u d s).mem = s.mem ∧ (glideStep u d s).eeprom = s.eeprom ∧ (glideStep u d s).calib = s.calib ∧ (glideStep u d s).tune = s.tune ∧ (glideStep u d s).pins = s.pins ∧ (glideStep u d s).freeCount = s.freeCount := by
  unfold glideStep; simp

/-- `beginWrite` changes only: slots, sched, pins. -/
@[simp] theorem beginWrite_keeps (i : SlotIdx) (s : State) :
    (beginWrite i s).now = s.now ∧ (beginWrite i s).pending = s.pending ∧ (beginWrite i s).start = s.start ∧ (beginWrite i s).link = s.link ∧ (beginWrite i s).voices = s.voices ∧ (beginWrite i s).gates = s.gates ∧ (beginWrite i s).sources = s.sources ∧ (beginWrite i s).claims = s.claims ∧ (beginWrite i s).glides = s.glides ∧ (beginWrite i s).panel = s.panel ∧ (beginWrite i s).live = s.live ∧ (beginWrite i s).mem = s.mem ∧ (beginWrite i s).eeprom = s.eeprom ∧ (beginWrite i s).calib = s.calib ∧ (beginWrite i s).tune = s.tune ∧ (beginWrite i s).freeCount = s.freeCount := by
  unfold beginWrite; simp

/-- `select` changes only: slots, sched, pins. -/
@[simp] theorem select_keeps (s : State) :
    (select s).now = s.now ∧ (select s).pending = s.pending ∧ (select s).start = s.start ∧ (select s).link = s.link ∧ (select s).voices = s.voices ∧ (select s).gates = s.gates ∧ (select s).sources = s.sources ∧ (select s).claims = s.claims ∧ (select s).glides = s.glides ∧ (select s).panel = s.panel ∧ (select s).live = s.live ∧ (select s).mem = s.mem ∧ (select s).eeprom = s.eeprom ∧ (select s).calib = s.calib ∧ (select s).tune = s.tune ∧ (select s).freeCount = s.freeCount := by
  unfold select
  split
  · split <;> simp
  · simp

/-- `selectIfPosted` changes only: slots, sched, pins. -/
@[simp] theorem selectIfPosted_keeps (s : State) :
    (selectIfPosted s).now = s.now ∧ (selectIfPosted s).pending = s.pending ∧ (selectIfPosted s).start = s.start ∧ (selectIfPosted s).link = s.link ∧ (selectIfPosted s).voices = s.voices ∧ (selectIfPosted s).gates = s.gates ∧ (selectIfPosted s).sources = s.sources ∧ (selectIfPosted s).claims = s.claims ∧ (selectIfPosted s).glides = s.glides ∧ (selectIfPosted s).panel = s.panel ∧ (selectIfPosted s).live = s.live ∧ (selectIfPosted s).mem = s.mem ∧ (selectIfPosted s).eeprom = s.eeprom ∧ (selectIfPosted s).calib = s.calib ∧ (selectIfPosted s).tune = s.tune ∧ (selectIfPosted s).freeCount = s.freeCount := by
  unfold selectIfPosted; split <;> simp

/-- `abandonWrite` changes only: slots, sched. -/
@[simp] theorem abandonWrite_keeps (s : State) :
    (abandonWrite s).now = s.now ∧ (abandonWrite s).pending = s.pending ∧ (abandonWrite s).start = s.start ∧ (abandonWrite s).link = s.link ∧ (abandonWrite s).voices = s.voices ∧ (abandonWrite s).gates = s.gates ∧ (abandonWrite s).sources = s.sources ∧ (abandonWrite s).claims = s.claims ∧ (abandonWrite s).glides = s.glides ∧ (abandonWrite s).panel = s.panel ∧ (abandonWrite s).live = s.live ∧ (abandonWrite s).mem = s.mem ∧ (abandonWrite s).eeprom = s.eeprom ∧ (abandonWrite s).calib = s.calib ∧ (abandonWrite s).tune = s.tune ∧ (abandonWrite s).pins = s.pins ∧ (abandonWrite s).freeCount = s.freeCount := by
  unfold abandonWrite; split <;> simp

/-- `stopScheduler` changes only: slots, sched, pins. -/
@[simp] theorem stopScheduler_keeps (s : State) :
    (stopScheduler s).now = s.now ∧ (stopScheduler s).pending = s.pending ∧ (stopScheduler s).start = s.start ∧ (stopScheduler s).link = s.link ∧ (stopScheduler s).voices = s.voices ∧ (stopScheduler s).gates = s.gates ∧ (stopScheduler s).sources = s.sources ∧ (stopScheduler s).claims = s.claims ∧ (stopScheduler s).glides = s.glides ∧ (stopScheduler s).panel = s.panel ∧ (stopScheduler s).live = s.live ∧ (stopScheduler s).mem = s.mem ∧ (stopScheduler s).eeprom = s.eeprom ∧ (stopScheduler s).calib = s.calib ∧ (stopScheduler s).tune = s.tune ∧ (stopScheduler s).freeCount = s.freeCount := by
  unfold stopScheduler; simp

/-- `restartScheduler` changes only: slots, sched. -/
@[simp] theorem restartScheduler_keeps (s : State) :
    (restartScheduler s).now = s.now ∧ (restartScheduler s).pending = s.pending ∧ (restartScheduler s).start = s.start ∧ (restartScheduler s).link = s.link ∧ (restartScheduler s).voices = s.voices ∧ (restartScheduler s).gates = s.gates ∧ (restartScheduler s).sources = s.sources ∧ (restartScheduler s).claims = s.claims ∧ (restartScheduler s).glides = s.glides ∧ (restartScheduler s).panel = s.panel ∧ (restartScheduler s).live = s.live ∧ (restartScheduler s).mem = s.mem ∧ (restartScheduler s).eeprom = s.eeprom ∧ (restartScheduler s).calib = s.calib ∧ (restartScheduler s).tune = s.tune ∧ (restartScheduler s).pins = s.pins ∧ (restartScheduler s).freeCount = s.freeCount := by
  unfold restartScheduler; simp

/-- `enterReleasing` changes only: voices, gates, slots. -/
@[simp] theorem enterReleasing_keeps (u : VoiceIdx) (s : State) :
    (enterReleasing u s).now = s.now ∧ (enterReleasing u s).pending = s.pending ∧ (enterReleasing u s).start = s.start ∧ (enterReleasing u s).link = s.link ∧ (enterReleasing u s).sources = s.sources ∧ (enterReleasing u s).claims = s.claims ∧ (enterReleasing u s).glides = s.glides ∧ (enterReleasing u s).sched = s.sched ∧ (enterReleasing u s).panel = s.panel ∧ (enterReleasing u s).live = s.live ∧ (enterReleasing u s).mem = s.mem ∧ (enterReleasing u s).eeprom = s.eeprom ∧ (enterReleasing u s).calib = s.calib ∧ (enterReleasing u s).tune = s.tune ∧ (enterReleasing u s).pins = s.pins ∧ (enterReleasing u s).freeCount = s.freeCount := by
  unfold enterReleasing; simp

/-- `applyNoteOff` changes only: voices, gates, slots. -/
@[simp] theorem applyNoteOff_keeps (u : VoiceIdx) (s : State) :
    (applyNoteOff u s).now = s.now ∧ (applyNoteOff u s).pending = s.pending ∧ (applyNoteOff u s).start = s.start ∧ (applyNoteOff u s).link = s.link ∧ (applyNoteOff u s).sources = s.sources ∧ (applyNoteOff u s).claims = s.claims ∧ (applyNoteOff u s).glides = s.glides ∧ (applyNoteOff u s).sched = s.sched ∧ (applyNoteOff u s).panel = s.panel ∧ (applyNoteOff u s).live = s.live ∧ (applyNoteOff u s).mem = s.mem ∧ (applyNoteOff u s).eeprom = s.eeprom ∧ (applyNoteOff u s).calib = s.calib ∧ (applyNoteOff u s).tune = s.tune ∧ (applyNoteOff u s).pins = s.pins ∧ (applyNoteOff u s).freeCount = s.freeCount := by
  unfold applyNoteOff
  split
  · split <;> simp
  · simp

/-- `releaseVoices` changes only: voices, gates, slots. -/
@[simp] theorem releaseVoices_keeps (src : Station) (st : VoiceState → Bool) (s : State) :
    (releaseVoices src st s).now = s.now ∧ (releaseVoices src st s).pending = s.pending ∧ (releaseVoices src st s).start = s.start ∧ (releaseVoices src st s).link = s.link ∧ (releaseVoices src st s).sources = s.sources ∧ (releaseVoices src st s).claims = s.claims ∧ (releaseVoices src st s).glides = s.glides ∧ (releaseVoices src st s).sched = s.sched ∧ (releaseVoices src st s).panel = s.panel ∧ (releaseVoices src st s).live = s.live ∧ (releaseVoices src st s).mem = s.mem ∧ (releaseVoices src st s).eeprom = s.eeprom ∧ (releaseVoices src st s).calib = s.calib ∧ (releaseVoices src st s).tune = s.tune ∧ (releaseVoices src st s).pins = s.pins ∧ (releaseVoices src st s).freeCount = s.freeCount := by
  unfold releaseVoices
  refine forVoices_keeps (P := fun t => t.now = s.now ∧ t.pending = s.pending ∧ t.start = s.start ∧ t.link = s.link ∧ t.sources = s.sources ∧ t.claims = s.claims ∧ t.glides = s.glides ∧ t.sched = s.sched ∧ t.panel = s.panel ∧ t.live = s.live ∧ t.mem = s.mem ∧ t.eeprom = s.eeprom ∧ t.calib = s.calib ∧ t.tune = s.tune ∧ t.pins = s.pins ∧ t.freeCount = s.freeCount) ?_ (by simp)
  intro u t h; split <;> simp [h]

/-- `assign` changes only: voices, gates, slots, glides. -/
@[simp] theorem assign_keeps (u : VoiceIdx) (i : Ident) (vel : Velocity) (s : State) :
    (assign u i vel s).now = s.now ∧ (assign u i vel s).pending = s.pending ∧ (assign u i vel s).start = s.start ∧ (assign u i vel s).link = s.link ∧ (assign u i vel s).sources = s.sources ∧ (assign u i vel s).claims = s.claims ∧ (assign u i vel s).sched = s.sched ∧ (assign u i vel s).panel = s.panel ∧ (assign u i vel s).live = s.live ∧ (assign u i vel s).mem = s.mem ∧ (assign u i vel s).eeprom = s.eeprom ∧ (assign u i vel s).calib = s.calib ∧ (assign u i vel s).tune = s.tune ∧ (assign u i vel s).pins = s.pins ∧ (assign u i vel s).freeCount = s.freeCount := by
  unfold assign; simp

/-- `claimWon` changes only: voices, gates, slots, glides. -/
@[simp] theorem claimWon_keeps (u : VoiceIdx) (i : Ident) (vel : Velocity) (s : State) :
    (claimWon u i vel s).now = s.now ∧ (claimWon u i vel s).pending = s.pending ∧ (claimWon u i vel s).start = s.start ∧ (claimWon u i vel s).link = s.link ∧ (claimWon u i vel s).sources = s.sources ∧ (claimWon u i vel s).claims = s.claims ∧ (claimWon u i vel s).sched = s.sched ∧ (claimWon u i vel s).panel = s.panel ∧ (claimWon u i vel s).live = s.live ∧ (claimWon u i vel s).mem = s.mem ∧ (claimWon u i vel s).eeprom = s.eeprom ∧ (claimWon u i vel s).calib = s.calib ∧ (claimWon u i vel s).tune = s.tune ∧ (claimWon u i vel s).pins = s.pins ∧ (claimWon u i vel s).freeCount = s.freeCount := by
  unfold claimWon; split <;> simp

/-- `endGating` changes only: voices, gates. -/
@[simp] theorem endGating_keeps (u : VoiceIdx) (s : State) :
    (endGating u s).now = s.now ∧ (endGating u s).pending = s.pending ∧ (endGating u s).start = s.start ∧ (endGating u s).link = s.link ∧ (endGating u s).sources = s.sources ∧ (endGating u s).claims = s.claims ∧ (endGating u s).glides = s.glides ∧ (endGating u s).slots = s.slots ∧ (endGating u s).sched = s.sched ∧ (endGating u s).panel = s.panel ∧ (endGating u s).live = s.live ∧ (endGating u s).mem = s.mem ∧ (endGating u s).eeprom = s.eeprom ∧ (endGating u s).calib = s.calib ∧ (endGating u s).tune = s.tune ∧ (endGating u s).pins = s.pins ∧ (endGating u s).freeCount = s.freeCount := by
  unfold endGating; split <;> simp

/-- `assignWritten` changes only: voices, gates. -/
@[simp] theorem assignWritten_keeps (u : VoiceIdx) (c : Fin 8) (s : State) :
    (assignWritten u c s).now = s.now ∧ (assignWritten u c s).pending = s.pending ∧ (assignWritten u c s).start = s.start ∧ (assignWritten u c s).link = s.link ∧ (assignWritten u c s).sources = s.sources ∧ (assignWritten u c s).claims = s.claims ∧ (assignWritten u c s).glides = s.glides ∧ (assignWritten u c s).slots = s.slots ∧ (assignWritten u c s).sched = s.sched ∧ (assignWritten u c s).panel = s.panel ∧ (assignWritten u c s).live = s.live ∧ (assignWritten u c s).mem = s.mem ∧ (assignWritten u c s).eeprom = s.eeprom ∧ (assignWritten u c s).calib = s.calib ∧ (assignWritten u c s).tune = s.tune ∧ (assignWritten u c s).pins = s.pins ∧ (assignWritten u c s).freeCount = s.freeCount := by
  unfold assignWritten; simp

/-- `openClaim` changes only: voices, claims, link. -/
@[simp] theorem openClaim_keeps (u : VoiceIdx) (r : Nat) (i : Ident) (vel : Velocity) (s : State) :
    (openClaim u r i vel s).now = s.now ∧ (openClaim u r i vel s).pending = s.pending ∧ (openClaim u r i vel s).start = s.start ∧ (openClaim u r i vel s).gates = s.gates ∧ (openClaim u r i vel s).sources = s.sources ∧ (openClaim u r i vel s).glides = s.glides ∧ (openClaim u r i vel s).slots = s.slots ∧ (openClaim u r i vel s).sched = s.sched ∧ (openClaim u r i vel s).panel = s.panel ∧ (openClaim u r i vel s).live = s.live ∧ (openClaim u r i vel s).mem = s.mem ∧ (openClaim u r i vel s).eeprom = s.eeprom ∧ (openClaim u r i vel s).calib = s.calib ∧ (openClaim u r i vel s).tune = s.tune ∧ (openClaim u r i vel s).pins = s.pins ∧ (openClaim u r i vel s).freeCount = s.freeCount := by
  unfold openClaim; simp

/-- `leaveTuneState` changes only: voices, slots, glides. -/
@[simp] theorem leaveTuneState_keeps (u : VoiceIdx) (s : State) :
    (leaveTuneState u s).now = s.now ∧ (leaveTuneState u s).pending = s.pending ∧ (leaveTuneState u s).start = s.start ∧ (leaveTuneState u s).link = s.link ∧ (leaveTuneState u s).gates = s.gates ∧ (leaveTuneState u s).sources = s.sources ∧ (leaveTuneState u s).claims = s.claims ∧ (leaveTuneState u s).sched = s.sched ∧ (leaveTuneState u s).panel = s.panel ∧ (leaveTuneState u s).live = s.live ∧ (leaveTuneState u s).mem = s.mem ∧ (leaveTuneState u s).eeprom = s.eeprom ∧ (leaveTuneState u s).calib = s.calib ∧ (leaveTuneState u s).tune = s.tune ∧ (leaveTuneState u s).pins = s.pins ∧ (leaveTuneState u s).freeCount = s.freeCount := by
  unfold leaveTuneState
  split
  · split <;> simp
  · simp

/-- `toTuneWait` changes only: voices, slots, glides. -/
@[simp] theorem toTuneWait_keeps (u : VoiceIdx) (s : State) :
    (toTuneWait u s).now = s.now ∧ (toTuneWait u s).pending = s.pending ∧ (toTuneWait u s).start = s.start ∧ (toTuneWait u s).link = s.link ∧ (toTuneWait u s).gates = s.gates ∧ (toTuneWait u s).sources = s.sources ∧ (toTuneWait u s).claims = s.claims ∧ (toTuneWait u s).sched = s.sched ∧ (toTuneWait u s).panel = s.panel ∧ (toTuneWait u s).live = s.live ∧ (toTuneWait u s).mem = s.mem ∧ (toTuneWait u s).eeprom = s.eeprom ∧ (toTuneWait u s).calib = s.calib ∧ (toTuneWait u s).tune = s.tune ∧ (toTuneWait u s).pins = s.pins ∧ (toTuneWait u s).freeCount = s.freeCount := by
  unfold toTuneWait; simp

/-- `setSeq` changes only: tune. -/
@[simp] theorem setSeq_keeps (q : SeqState) (s : State) :
    (setSeq q s).now = s.now ∧ (setSeq q s).pending = s.pending ∧ (setSeq q s).start = s.start ∧ (setSeq q s).link = s.link ∧ (setSeq q s).voices = s.voices ∧ (setSeq q s).gates = s.gates ∧ (setSeq q s).sources = s.sources ∧ (setSeq q s).claims = s.claims ∧ (setSeq q s).glides = s.glides ∧ (setSeq q s).slots = s.slots ∧ (setSeq q s).sched = s.sched ∧ (setSeq q s).panel = s.panel ∧ (setSeq q s).live = s.live ∧ (setSeq q s).mem = s.mem ∧ (setSeq q s).eeprom = s.eeprom ∧ (setSeq q s).calib = s.calib ∧ (setSeq q s).pins = s.pins ∧ (setSeq q s).freeCount = s.freeCount := by
  unfold setSeq; simp

/-- `clearTuneVoice` changes only: tune. -/
@[simp] theorem clearTuneVoice_keeps (q : SeqState) (s : State) :
    (clearTuneVoice q s).now = s.now ∧ (clearTuneVoice q s).pending = s.pending ∧ (clearTuneVoice q s).start = s.start ∧ (clearTuneVoice q s).link = s.link ∧ (clearTuneVoice q s).voices = s.voices ∧ (clearTuneVoice q s).gates = s.gates ∧ (clearTuneVoice q s).sources = s.sources ∧ (clearTuneVoice q s).claims = s.claims ∧ (clearTuneVoice q s).glides = s.glides ∧ (clearTuneVoice q s).slots = s.slots ∧ (clearTuneVoice q s).sched = s.sched ∧ (clearTuneVoice q s).panel = s.panel ∧ (clearTuneVoice q s).live = s.live ∧ (clearTuneVoice q s).mem = s.mem ∧ (clearTuneVoice q s).eeprom = s.eeprom ∧ (clearTuneVoice q s).calib = s.calib ∧ (clearTuneVoice q s).pins = s.pins ∧ (clearTuneVoice q s).freeCount = s.freeCount := by
  unfold clearTuneVoice; simp

/-- `leaveWait` changes only: voices, slots, glides, tune. -/
@[simp] theorem leaveWait_keeps (w : VoiceIdx) (q : SeqState) (s : State) :
    (leaveWait w q s).now = s.now ∧ (leaveWait w q s).pending = s.pending ∧ (leaveWait w q s).start = s.start ∧ (leaveWait w q s).link = s.link ∧ (leaveWait w q s).gates = s.gates ∧ (leaveWait w q s).sources = s.sources ∧ (leaveWait w q s).claims = s.claims ∧ (leaveWait w q s).sched = s.sched ∧ (leaveWait w q s).panel = s.panel ∧ (leaveWait w q s).live = s.live ∧ (leaveWait w q s).mem = s.mem ∧ (leaveWait w q s).eeprom = s.eeprom ∧ (leaveWait w q s).calib = s.calib ∧ (leaveWait w q s).pins = s.pins ∧ (leaveWait w q s).freeCount = s.freeCount := by
  unfold leaveWait; simp

/-- `beginWait` changes only: link, voices, slots, glides, tune. -/
@[simp] theorem beginWait_keeps (w : VoiceIdx) (s : State) :
    (beginWait w s).now = s.now ∧ (beginWait w s).pending = s.pending ∧ (beginWait w s).start = s.start ∧ (beginWait w s).gates = s.gates ∧ (beginWait w s).sources = s.sources ∧ (beginWait w s).claims = s.claims ∧ (beginWait w s).sched = s.sched ∧ (beginWait w s).panel = s.panel ∧ (beginWait w s).live = s.live ∧ (beginWait w s).mem = s.mem ∧ (beginWait w s).eeprom = s.eeprom ∧ (beginWait w s).calib = s.calib ∧ (beginWait w s).pins = s.pins ∧ (beginWait w s).freeCount = s.freeCount := by
  unfold beginWait; simp

/-- `seqLook` changes only: link, voices, slots, glides, tune. -/
@[simp] theorem seqLook_keeps (s : State) :
    (seqLook s).now = s.now ∧ (seqLook s).pending = s.pending ∧ (seqLook s).start = s.start ∧ (seqLook s).gates = s.gates ∧ (seqLook s).sources = s.sources ∧ (seqLook s).claims = s.claims ∧ (seqLook s).sched = s.sched ∧ (seqLook s).panel = s.panel ∧ (seqLook s).live = s.live ∧ (seqLook s).mem = s.mem ∧ (seqLook s).eeprom = s.eeprom ∧ (seqLook s).calib = s.calib ∧ (seqLook s).pins = s.pins ∧ (seqLook s).freeCount = s.freeCount := by
  unfold seqLook
  split
  · split
    · simp
    · split
      · simp
      · split
        · split <;> simp
        · simp
  · simp

/-- `handRefresh` changes only: link, tune. -/
@[simp] theorem handRefresh_keeps (s : State) :
    (handRefresh s).now = s.now ∧ (handRefresh s).pending = s.pending ∧ (handRefresh s).start = s.start ∧ (handRefresh s).voices = s.voices ∧ (handRefresh s).gates = s.gates ∧ (handRefresh s).sources = s.sources ∧ (handRefresh s).claims = s.claims ∧ (handRefresh s).glides = s.glides ∧ (handRefresh s).slots = s.slots ∧ (handRefresh s).sched = s.sched ∧ (handRefresh s).panel = s.panel ∧ (handRefresh s).live = s.live ∧ (handRefresh s).mem = s.mem ∧ (handRefresh s).eeprom = s.eeprom ∧ (handRefresh s).calib = s.calib ∧ (handRefresh s).pins = s.pins ∧ (handRefresh s).freeCount = s.freeCount := by
  unfold handRefresh
  split
  · split <;> simp
  · simp

/-- `endRefresh` changes only: link, tune. -/
@[simp] theorem endRefresh_keeps (u : VoiceIdx) (s : State) :
    (endRefresh u s).now = s.now ∧ (endRefresh u s).pending = s.pending ∧ (endRefresh u s).start = s.start ∧ (endRefresh u s).voices = s.voices ∧ (endRefresh u s).gates = s.gates ∧ (endRefresh u s).sources = s.sources ∧ (endRefresh u s).claims = s.claims ∧ (endRefresh u s).glides = s.glides ∧ (endRefresh u s).slots = s.slots ∧ (endRefresh u s).sched = s.sched ∧ (endRefresh u s).panel = s.panel ∧ (endRefresh u s).live = s.live ∧ (endRefresh u s).mem = s.mem ∧ (endRefresh u s).eeprom = s.eeprom ∧ (endRefresh u s).calib = s.calib ∧ (endRefresh u s).pins = s.pins ∧ (endRefresh u s).freeCount = s.freeCount := by
  unfold endRefresh; simp

/-- `memoryReport` changes only: link. -/
@[simp] theorem memoryReport_keeps (c : MemCode) (p : Nat) (s : State) :
    (memoryReport c p s).now = s.now ∧ (memoryReport c p s).pending = s.pending ∧ (memoryReport c p s).start = s.start ∧ (memoryReport c p s).voices = s.voices ∧ (memoryReport c p s).gates = s.gates ∧ (memoryReport c p s).sources = s.sources ∧ (memoryReport c p s).claims = s.claims ∧ (memoryReport c p s).glides = s.glides ∧ (memoryReport c p s).slots = s.slots ∧ (memoryReport c p s).sched = s.sched ∧ (memoryReport c p s).panel = s.panel ∧ (memoryReport c p s).live = s.live ∧ (memoryReport c p s).mem = s.mem ∧ (memoryReport c p s).eeprom = s.eeprom ∧ (memoryReport c p s).calib = s.calib ∧ (memoryReport c p s).tune = s.tune ∧ (memoryReport c p s).pins = s.pins ∧ (memoryReport c p s).freeCount = s.freeCount := by
  unfold memoryReport; simp

/-- `beginService` changes only: mem, pins. -/
@[simp] theorem beginService_keeps (s : State) :
    (beginService s).now = s.now ∧ (beginService s).pending = s.pending ∧ (beginService s).start = s.start ∧ (beginService s).link = s.link ∧ (beginService s).voices = s.voices ∧ (beginService s).gates = s.gates ∧ (beginService s).sources = s.sources ∧ (beginService s).claims = s.claims ∧ (beginService s).glides = s.glides ∧ (beginService s).slots = s.slots ∧ (beginService s).sched = s.sched ∧ (beginService s).panel = s.panel ∧ (beginService s).live = s.live ∧ (beginService s).eeprom = s.eeprom ∧ (beginService s).calib = s.calib ∧ (beginService s).tune = s.tune ∧ (beginService s).freeCount = s.freeCount := by
  unfold beginService; split <;> simp

/-- `joinQueue` changes only: mem. -/
@[simp] theorem joinQueue_keeps (r : MemReq) (s : State) :
    (joinQueue r s).now = s.now ∧ (joinQueue r s).pending = s.pending ∧ (joinQueue r s).start = s.start ∧ (joinQueue r s).link = s.link ∧ (joinQueue r s).voices = s.voices ∧ (joinQueue r s).gates = s.gates ∧ (joinQueue r s).sources = s.sources ∧ (joinQueue r s).claims = s.claims ∧ (joinQueue r s).glides = s.glides ∧ (joinQueue r s).slots = s.slots ∧ (joinQueue r s).sched = s.sched ∧ (joinQueue r s).panel = s.panel ∧ (joinQueue r s).live = s.live ∧ (joinQueue r s).eeprom = s.eeprom ∧ (joinQueue r s).calib = s.calib ∧ (joinQueue r s).tune = s.tune ∧ (joinQueue r s).pins = s.pins ∧ (joinQueue r s).freeCount = s.freeCount := by
  unfold joinQueue; simp

/-- `memRequest` changes only: link, mem, pins. -/
@[simp] theorem memRequest_keeps (r : MemReq) (s : State) :
    (memRequest r s).now = s.now ∧ (memRequest r s).pending = s.pending ∧ (memRequest r s).start = s.start ∧ (memRequest r s).voices = s.voices ∧ (memRequest r s).gates = s.gates ∧ (memRequest r s).sources = s.sources ∧ (memRequest r s).claims = s.claims ∧ (memRequest r s).glides = s.glides ∧ (memRequest r s).slots = s.slots ∧ (memRequest r s).sched = s.sched ∧ (memRequest r s).panel = s.panel ∧ (memRequest r s).live = s.live ∧ (memRequest r s).eeprom = s.eeprom ∧ (memRequest r s).calib = s.calib ∧ (memRequest r s).tune = s.tune ∧ (memRequest r s).freeCount = s.freeCount := by
  unfold memRequest; split <;> simp

/-- `spoilPage` changes only: eeprom, freeCount. -/
@[simp] theorem spoilPage_keeps (p : Nat) (s : State) :
    (spoilPage p s).now = s.now ∧ (spoilPage p s).pending = s.pending ∧ (spoilPage p s).start = s.start ∧ (spoilPage p s).link = s.link ∧ (spoilPage p s).voices = s.voices ∧ (spoilPage p s).gates = s.gates ∧ (spoilPage p s).sources = s.sources ∧ (spoilPage p s).claims = s.claims ∧ (spoilPage p s).glides = s.glides ∧ (spoilPage p s).slots = s.slots ∧ (spoilPage p s).sched = s.sched ∧ (spoilPage p s).panel = s.panel ∧ (spoilPage p s).live = s.live ∧ (spoilPage p s).mem = s.mem ∧ (spoilPage p s).calib = s.calib ∧ (spoilPage p s).tune = s.tune ∧ (spoilPage p s).pins = s.pins := by
  unfold spoilPage; simp

/-- `noticed` changes only: link, voices, claims, slots, glides, tune. -/
@[simp] theorem noticed_keeps (f : Frame) (s : State) :
    (noticed f s).now = s.now ∧ (noticed f s).pending = s.pending ∧ (noticed f s).start = s.start ∧ (noticed f s).gates = s.gates ∧ (noticed f s).sources = s.sources ∧ (noticed f s).sched = s.sched ∧ (noticed f s).panel = s.panel ∧ (noticed f s).live = s.live ∧ (noticed f s).mem = s.mem ∧ (noticed f s).eeprom = s.eeprom ∧ (noticed f s).calib = s.calib ∧ (noticed f s).pins = s.pins ∧ (noticed f s).freeCount = s.freeCount := by
  unfold noticed
  split
  · simp
  · split <;> simp
  · simp [refreshLost]
  · split <;> simp
  · split <;> simp
  · simp

/-- `settle` changes only: link, voices, claims, slots, glides, tune. -/
@[simp] theorem settle_keeps (n : Nat) (s : State) :
    (settle n s).now = s.now ∧ (settle n s).pending = s.pending ∧ (settle n s).start = s.start ∧ (settle n s).gates = s.gates ∧ (settle n s).sources = s.sources ∧ (settle n s).sched = s.sched ∧ (settle n s).panel = s.panel ∧ (settle n s).live = s.live ∧ (settle n s).mem = s.mem ∧ (settle n s).eeprom = s.eeprom ∧ (settle n s).calib = s.calib ∧ (settle n s).pins = s.pins ∧ (settle n s).freeCount = s.freeCount := by
  induction n generalizing s with
  | zero => unfold settle; simp
  | succ n ih =>
    unfold settle
    split
    · simp
    · simp [ih]

/-- The end of an event changes only: link, voices, claims, slots, glides, tune, sched, pins. -/
@[simp] theorem finish_keeps (before s : State) :
    (finish before s).now = s.now ∧ (finish before s).pending = s.pending ∧ (finish before s).start = s.start ∧ (finish before s).gates = s.gates ∧ (finish before s).sources = s.sources ∧ (finish before s).panel = s.panel ∧ (finish before s).live = s.live ∧ (finish before s).mem = s.mem ∧ (finish before s).eeprom = s.eeprom ∧ (finish before s).calib = s.calib ∧ (finish before s).freeCount = s.freeCount := by
  unfold finish; simp only []; split <;> simp

end Sys2Proof.Machine
end

