-- ==== Sys2Proof/Laws/Finish.lean ====
section
/-!
SUPPORT. The end of an event in a settled state changes nothing; what settling does when no notice waits.
-/
namespace Sys2Proof.Machine
open Sys2Proof Sys2Proof.Safety

/-- With no notice waiting, settling changes nothing. -/
theorem settle_none {n : Nat} {s : State} (h : s.link.notices = []) : settle n s = s := by
  cases n with
  | zero =>
    cases s with
    | mk now pending start link => cases link; simp only [] at h; subst h; rfl
  | succ n => rw [settle, h]

/-- The sequencer looks only in SELECT. -/
theorem seqLook_other {s : State} (h : s.tune.seq ≠ .select) : seqLook s = s := by
  rw [seqLook, if_neg h]

/-- Without a pending code before an idle port there is no selection. -/
theorem selectIfPosted_none {s : State}
    (h : selecting s = true → s.sched.port = .idle → ∀ i : SlotIdx, s.slots[i].pending = none) : selectIfPosted s = s := by
  unfold selectIfPosted
  split
  · rename_i hp
    rw [List.any_eq_true] at hp
    obtain ⟨i, _, hi⟩ := hp
    unfold select
    split
    · rename_i hs
      rw [Bool.and_eq_true] at hs
      have := h hs.1 (by simpa using hs.2) i
      rw [this] at hi
      exact absurd hi (by simp)
    · rfl
  · rfl

/-- The end of an event in a settled state. -/
theorem finish_settled {before s : State} (h : Settled s) : finish before s = s := by
  obtain ⟨h1, h2, h3⟩ := h
  unfold finish
  simp only []
  rw [settle_none h1]
  split
  · rw [seqLook_other h2, settle_none h1, selectIfPosted_none h3]
  · rw [settle_none h1, selectIfPosted_none h3]

/-- When no notice waits and the sequencer is not in SELECT, the end of an event is at most a selection. -/
theorem finish_select {before s : State} (h1 : s.link.notices = []) (h2 : s.tune.seq ≠ .select) :
    finish before s = selectIfPosted s := by
  unfold finish
  simp only []
  rw [settle_none h1]
  split
  · rw [seqLook_other h2, settle_none h1]
  · rw [settle_none h1]

end Sys2Proof.Machine
end

