-- ==== Sys2Proof/Laws/Line.lean ====
section
/-!
SUPPORT. What the operations of the line events can do: when the gap has passed and the station is ready, the start bit at a receiver
and at a ready station, the place lost at a fault, and a rival that is absent.
-/
namespace Sys2Proof.Machine
open Sys2Proof Sys2Proof.Safety

/-- The end of the gap is the time at which it passes (R5). -/
theorem gapEnd_iff {s : State} {g : Nat} : gapEnd s = some g ↔ GapPassesAt s g := by
  unfold gapEnd GapPassesAt
  cases h : s.link.place <;> simp [Config.gapInPlaceUs, Config.gapLostUs, eq_comm]

/-- A station is ready when the gap has passed, its transmitter is enabled and a frame waits (R6). -/
theorem ready_iff {s : State} :
    ready s = true ↔ (∃ g, GapPassesAt s g ∧ g ≤ s.now) ∧ txEnabled s = true ∧ s.link.queue ≠ [] := by
  unfold ready
  cases h : gapEnd s with
  | none =>
    have : ∀ g, ¬ GapPassesAt s g := fun g hg => by simpa [h] using gapEnd_iff.mpr hg
    simp [this]
  | some t =>
    have hu : ∀ g, GapPassesAt s g ↔ g = t := fun g => by rw [← gapEnd_iff, h]; simp [eq_comm]
    simp [hu, and_assoc]

/-- A gap that has not passed leaves the station a receiver. -/
theorem not_ready_of_gap {s : State} (h : ∀ g, GapPassesAt s g → s.now < g) : ready s = false := by
  rw [← Bool.not_eq_true, ready_iff]
  exact fun ⟨⟨g, hg, hn⟩, _⟩ => absurd hn (Nat.not_le.mpr (h g hg))

/-- The check of R24 leaves a head that is no non-refresh Tune-Begin, and every head below the limit. -/
theorem checkHead_stays {s : State} {e : TxEntry} {rest : List TxEntry} (hq : s.link.queue = e :: rest)
    (h : isCheckedBegin e = false ∨ s.tune.offline.length < s.start.limit) : checkHead s = s := by
  unfold checkHead
  rcases h with h | h
  · split
    · rfl
    · have ht : s.link.queue.takeWhile isCheckedBegin = [] := by simp [hq, h]
      have hd : s.link.queue.dropWhile isCheckedBegin = s.link.queue := by simp [hq, h]
      rw [ht, List.foldl_nil, updLink, hd]
  · rw [if_pos (by simpa [belowLimit] using h)]

/-- The head goes on the line (R6). -/
theorem driveHead_cons {s : State} {e : TxEntry} {rest : List TxEntry} (h : s.link.queue = e :: rest) :
    driveHead s = { s with link := { s.link with
      queue := { e with onLine := true } :: rest, place := .sending, before := s.link.place } } := by
  unfold driveHead
  rw [h]
  rfl

/-- A station that is not ready follows the edge as a receiver (R5, R6). -/
theorem execStartBitReceived_receiver {s : State} {l : Level} (hc : canReceive s = true) (hr : ready s = false) :
    execStartBitReceived l s = .next (followEdge l s) := by
  simp [execStartBitReceived, hc, hr]

/-- A ready station whose head passes the check joins the arbitration with it (R6, R24). -/
theorem execStartBitReceived_joins {s : State} {l : Level} {e : TxEntry} {rest : List TxEntry} (hc : canReceive s = true)
    (hr : ready s = true) (hq : s.link.queue = e :: rest)
    (h : isCheckedBegin e = false ∨ s.tune.offline.length < s.start.limit) :
    execStartBitReceived l s = .next (finish s (driveHead s)) := by
  simp [execStartBitReceived, hc, hr, checkHead_stays hq h, hq]

/-- A fault counts one malformed frame and loses the place, `run` bits back (R5, R12). -/
theorem breakOff_eq (found : FramingFault) (s : State) :
    breakOff found s = { s with link := { s.link with
      place := .lost (s.now - 2 * found.run), counters := s.link.counters.addMalformed } } := rfl

/-- A frame can meet a collision in its start bit (R10). -/
theorem zero_mem_collisionBits (f : RawFrame) : 0 ∈ f.collisionBits := by
  simp [RawFrame.collisionBits, RawFrame.lineBits, RawFrame.span, insertSync]

/-- The bits in which a frame can meet a collision: all but the recessive ones of the arbitration field (R8, R10). -/
theorem mem_collisionBits {f : RawFrame} {k : Nat} :
    k ∈ f.collisionBits ↔ k < f.lineBits.length ∧ (f.lineBits.getD k true = true → f.arbitrationBits ≤ k) := by
  unfold RawFrame.collisionBits
  rw [List.mem_filter, List.mem_range]
  cases f.lineBits.getD k true <;> simp

/-- The free value chooses one of them (log 36). -/
theorem freeCollisionBit_mem (f : RawFrame) (s : State) : freeCollisionBit f s ∈ f.collisionBits := by
  have h : Config.freeBit s.freeCount % f.collisionBits.length < f.collisionBits.length :=
    Nat.mod_lt _ (List.length_pos_of_mem (zero_mem_collisionBits f))
  rw [freeCollisionBit, List.getD_eq_getElem?_getD, List.getElem?_eq_getElem h]
  exact List.getElem_mem h

/-- A frame is closed by 3 to 8 recessive bits (R5). -/
theorem freeClosing_range (s : State) : 3 ≤ freeClosing s ∧ freeClosing s ≤ 8 := by
  unfold freeClosing
  omega

/-- With a dominant bit among the bits read, the run counts from the last one (R5). -/
theorem lostHaving_dominant {read : List Bool} {s : State} (h : read.all id = false) :
    lostHaving read s = .lost (s.now - 2 * recessiveTail read) := by
  unfold lostHaving
  rw [h]
  rfl

/-- Without one, it counts from the last dominant bit before the frame (R5; log 36). -/
theorem lostHaving_recessive {read : List Bool} {s : State} {t : Nat} (h : read.all id = true)
    (hb : s.link.before.lastDominant (freeClosing s) = some t) : lostHaving read s = .lost t := by
  unfold lostHaving
  rw [h, hb]

/-- The place lost at a collision in some bit of the frame (R5, R10). -/
theorem loseAtCollision_eq (e : TxEntry) (s : State) :
    ∃ k ∈ (e.sent s).collisionBits, loseAtCollision e s = leaveLine ((e.sent s).readAtCollision k) s :=
  ⟨freeCollisionBit (e.sent s) s, freeCollisionBit_mem _ s, rfl⟩

/-- A station that leaves the line in its frame changes nothing else. -/
theorem leaveLine_eq (read : List Bool) (s : State) :
    leaveLine read s = { s with freeCount := s.freeCount + 1, link := { s.link with place := lostHaving read s } } := rfl

/-- A frame begins with its dominant start bit, and is closed by its end field (R4). -/
theorem lineBits_cons (f : RawFrame) : ∃ more, f.lineBits = false :: more ∧ more ≠ [] := by
  refine ⟨insertSync false 1 (f.checkedBits ++ bitsMsb f.check) ++ [true, true, true], ?_, by simp⟩
  simp [RawFrame.lineBits, RawFrame.span, insertSync]

/-- The bits read of a frame that breaks off: the start bit and further ones, but not all (R7). -/
theorem readAtBreak_eq (f : RawFrame) (s : State) :
    ∃ k, 1 ≤ k ∧ k < f.lineBits.length ∧ readAtBreak f s = f.lineBits.take k := by
  obtain ⟨more, hf, hm⟩ := lineBits_cons f
  have hl : 0 < f.lineBits.length - 1 := by
    rw [hf, List.length_cons, Nat.add_sub_cancel]
    exact List.length_pos_iff.mpr hm
  have := Nat.mod_lt (Config.freeBit s.freeCount) hl
  exact ⟨_, Nat.le_add_right 1 _, by omega, rfl⟩

/-- They hold a dominant bit. -/
theorem take_lineBits_dominant (f : RawFrame) {k : Nat} (h : 1 ≤ k) : (f.lineBits.take k).all id = false := by
  obtain ⟨more, hf, _⟩ := lineBits_cons f
  obtain ⟨k, rfl⟩ := Nat.exists_eq_add_of_le' h
  simp [hf]

/-- A station that is not sending has no frame to break off (R7). -/
theorem breakOwnFrame_idle {s : State} (h : s.link.place ≠ .sending) : breakOwnFrame s = s := by
  unfold breakOwnFrame
  split <;> simp_all

/-- A frame that breaks off has been read up to some bit of it, and the run of R5 counts from its last dominant bit (R5, R7). -/
theorem breakOwnFrame_sending {s : State} {e : TxEntry} (h : OnLine s e) :
    ∃ k, 1 ≤ k ∧ k < (e.sent s).lineBits.length ∧ breakOwnFrame s = { s with
      freeCount := s.freeCount + 1
      link := { s.link with place := .lost (s.now - 2 * recessiveTail ((e.sent s).lineBits.take k)) } } := by
  obtain ⟨k, h1, hk, hr⟩ := readAtBreak_eq (e.sent s) s
  refine ⟨k, h1, hk, ?_⟩
  unfold breakOwnFrame
  rw [h.1, h.2]
  show leaveLine _ s = _
  rw [hr, leaveLine_eq, lostHaving_dominant (take_lineBits_dominant _ h1)]

/-- A dominant sample changes the place, and uses up a free value (R5; log 36). -/
theorem followEdge_dominant (s : State) : followEdge .dominant s = { s with
    freeCount := s.freeCount + 1
    link := { s.link with place := s.link.place.dominant (freeClosing s) s.now } } := rfl

/-- An edge after 10 recessive bit times is a start bit, and the frame is followed (R5). -/
theorem dominant_start {p : Place} {free now t : Nat} (hp : p.lastDominant free = some t) (h : t + 20 ≤ now) :
    p.dominant free now = .receiving := by
  unfold Place.dominant
  rw [hp]
  exact if_pos h

/-- An edge before them is none, and the count starts again after its bit (R5; log 38). -/
theorem dominant_early {p : Place} {free now t : Nat} (hp : p.lastDominant free = some t) (h : now < t + 20) :
    p.dominant free now = p.recount (now + 2) := by
  unfold Place.dominant
  rw [hp]
  exact if_neg (Nat.not_le.mpr h)

/-- At a ready station's gap the 10 recessive bit times have passed (R5). -/
theorem dominant_of_gap {s : State} {g free : Nat} (hg : GapPassesAt s g) (h : g ≤ s.now) :
    s.link.place.dominant free s.now = .receiving := by
  rcases hg with ⟨t, hp | ⟨closing, hp⟩, rfl⟩ | ⟨t, hp, rfl⟩ <;> rw [hp]
  · exact dominant_start rfl (Nat.le_trans (Nat.add_le_add_right (Nat.sub_le ..) 20) h)
  · exact dominant_start rfl (Nat.le_trans (Nat.add_le_add_right (Nat.sub_le ..) 20) h)
  · exact dominant_start rfl (Nat.le_trans (Nat.add_le_add_left (by decide) t) h)

/-- The end field closes a frame with 3 recessive bits at least (R4, R5). -/
theorem closingRun_ge (f : RawFrame) : 3 ≤ f.closingRun := by
  simp [RawFrame.closingRun, recessiveTail, RawFrame.lineBits]

/-- Without a rival the end of a memory operation is the waiting request's (R162). -/
theorem rivalEffect_none : Rival.effect .none = id := rfl

end Sys2Proof.Machine
end

