-- ==== Sys2Proof/Laws/Memory.lean ====
section
/-!
SUPPORT. The EEPROM's byte list: every operation keeps the canonical form, and what is read after a write; and what is decided on
a request to the memory.
-/
namespace Sys2Proof.Machine
open Sys2Proof

namespace Memory

/-- The addresses of a list lie above a bound. -/
def above (a : Nat) (m : List Host.Cell) : Prop := ∀ c ∈ m, a < c.1

theorem wf_nil : wf [] = true := by simp [wf]

theorem wf_cons (c : Host.Cell) (m : List Host.Cell) :
    wf (c :: m) = true ↔ above c.1 m ∧ c.1 < 32768 ∧ c.2 ≠ erased ∧ wf m = true := by
  simp only [wf, above, List.pairwise_cons, Bool.decide_and, Bool.and_eq_true, decide_eq_true_eq, List.all_cons, bne_iff_ne]
  constructor
  · rintro ⟨⟨h1, h2⟩, ⟨h3, h4⟩, h5⟩; exact ⟨h1, h3, h4, h2, h5⟩
  · rintro ⟨h1, h3, h4, h2, h5⟩; exact ⟨⟨h1, h2⟩, ⟨h3, h4⟩, h5⟩

/-- The addresses after a write are those before it and the one written. -/
theorem mem_write {a : Nat} {v : Byte} {m : List Host.Cell} {c : Host.Cell} (h : c ∈ write a v m) :
    c = (a, v) ∨ c ∈ m := by
  induction m with
  | nil =>
    unfold write at h
    split at h
    · exact absurd h (by simp)
    · left; simpa using h
  | cons d m ih =>
    obtain ⟨b, w⟩ := d
    unfold write at h
    split at h
    · split at h
      · exact Or.inr h
      · rcases List.mem_cons.mp h with h | h
        · exact Or.inl h
        · exact Or.inr h
    · split at h
      · rename_i _ heq
        split at h
        · exact Or.inr (List.mem_cons_of_mem _ h)
        · rcases List.mem_cons.mp h with h | h
          · left; rw [h, heq]
          · exact Or.inr (List.mem_cons_of_mem _ h)
      · rcases List.mem_cons.mp h with h | h
        · right; rw [h]; exact List.mem_cons_self
        · rcases ih h with h | h
          · exact Or.inl h
          · exact Or.inr (List.mem_cons_of_mem _ h)

/-- A write keeps the canonical form. -/
theorem wf_write {a : Nat} {v : Byte} {m : List Host.Cell} (ha : a < 32768) (h : wf m = true) :
    wf (write a v m) = true := by
  induction m with
  | nil =>
    unfold write
    split
    · exact h
    · rename_i hv; rw [wf_cons]; exact ⟨by simp [above], ha, hv, wf_nil⟩
  | cons d m ih =>
    obtain ⟨b, w⟩ := d
    have hd := (wf_cons _ _).mp h
    unfold write
    split
    · rename_i hlt
      split
      · exact h
      · rename_i hv
        rw [wf_cons]
        refine ⟨?_, ha, hv, h⟩
        intro c hc
        rcases List.mem_cons.mp hc with hc | hc
        · rw [hc]; exact hlt
        · exact Nat.lt_trans hlt (hd.1 c hc)
    · split
      · split
        · exact hd.2.2.2
        · rename_i hv
          rw [wf_cons]; exact ⟨hd.1, hd.2.1, hv, hd.2.2.2⟩
      · rename_i hnlt hne
        rw [wf_cons]
        refine ⟨?_, hd.2.1, hd.2.2.1, ih hd.2.2.2⟩
        intro c hc
        rcases mem_write hc with hc | hc
        · rw [hc]; show b < a; omega
        · exact hd.1 c hc

/-- Consecutive writes keep the canonical form. -/
theorem wf_writeBytes {l : List Byte} {a : Nat} {m : List Host.Cell} (ha : a + l.length ≤ 32768) (h : wf m = true) :
    wf (writeBytes a l m) = true := by
  induction l generalizing a m with
  | nil => exact h
  | cons v l ih =>
    simp only [List.length_cons] at ha
    exact ih (by omega) (wf_write (by omega) h)

/-- A page write keeps the canonical form. -/
theorem wf_writePage {p : Nat} {bytes : Vector Byte 64} {m : List Host.Cell} (hp : p < 512) (h : wf m = true) :
    wf (writePage p bytes m) = true := by
  refine wf_writeBytes ?_ h
  rw [Vector.length_toList]; omega

/-- An address below every listed one reads as erased. -/
theorem read_of_above {a : Nat} {m : List Host.Cell} (h : above a m) : read a m = erased := by
  induction m with
  | nil => rfl
  | cons c m ih =>
    obtain ⟨b, w⟩ := c
    have hb : a < b := h (b, w) (by simp)
    unfold read
    rw [if_neg (by omega)]
    exact ih fun c hc => h c (List.mem_cons_of_mem _ hc)

/-- Reading after a write: the byte written, and every other byte as before. -/
theorem read_write {a : Nat} {v : Byte} {m : List Host.Cell} (h : wf m = true) (x : Nat) :
    read x (write a v m) = if x = a then v else read x m := by
  induction m with
  | nil =>
    unfold write
    split
    · rename_i hv
      split
      · rw [hv]; rfl
      · rfl
    · rfl
  | cons d m ih =>
    obtain ⟨b, w⟩ := d
    have hd := (wf_cons _ _).mp h
    unfold write
    split
    · rename_i hlt
      split
      · rename_i hv
        split
        · rename_i hx
          rw [hx, hv, read_of_above]
          intro c hc
          rcases List.mem_cons.mp hc with hc | hc
          · rw [hc]; exact hlt
          · exact Nat.lt_trans hlt (hd.1 c hc)
        · rfl
      · rfl
    · split
      · rename_i _ hab
        split
        · rename_i hv
          split
          · rename_i hx
            rw [hx, hab, hv]; exact read_of_above hd.1
          · rename_i hx
            have : x ≠ b := by rw [← hab]; exact hx
            simp [read, this]
        · split
          · rename_i hx; simp [read, hx, hab]
          · rename_i hx
            have : x ≠ b := by rw [← hab]; exact hx
            simp [read, this]
      · rename_i hnlt hne
        by_cases hxb : x = b
        · simp only [read, hxb, if_true]
          rw [if_neg (by omega)]
        · simp only [read, if_neg hxb]
          exact ih hd.2.2.2

/-- Reading after consecutive writes. -/
theorem read_writeBytes {l : List Byte} {a : Nat} {m : List Host.Cell} (ha : a + l.length ≤ 32768) (h : wf m = true) (x : Nat) :
    read x (writeBytes a l m) = if h : a ≤ x ∧ x - a < l.length then l[x - a] else read x m := by
  induction l generalizing a m with
  | nil => simp [writeBytes]
  | cons v l ih =>
    simp only [List.length_cons] at ha
    rw [writeBytes, ih (by omega) (wf_write (by omega) h), read_write h]
    by_cases hx : a + 1 ≤ x ∧ x - (a + 1) < l.length
    · have h2 : a ≤ x ∧ x - a < (v :: l).length := by simp only [List.length_cons]; omega
      rw [dif_pos hx, dif_pos h2]
      have : x - a = (x - (a + 1)) + 1 := by omega
      simp only [this, List.getElem_cons_succ]
    · rw [dif_neg hx]
      by_cases hxa : x = a
      · subst hxa; simp
      · rw [if_neg hxa, dif_neg (by simp only [List.length_cons]; omega)]

end Memory

/-- What a spoiled page makes of the EEPROM: 64 free bytes on the page (R167; log 10). -/
theorem spoilPage_eeprom (p : Nat) (s : State) : (spoilPage p s).eeprom =
    Memory.writePage p (Vector.ofFn fun i => Config.freePageByte (s.freeCount + i.val)) s.eeprom := by
  simp only [spoilPage]

/-- Spoiling a page keeps the canonical form. -/
theorem spoilPage_wf {p : Nat} {s : State} (hp : p < 512) (h : Memory.wf s.eeprom = true) :
    Memory.wf (spoilPage p s).eeprom = true := by
  rw [spoilPage_eeprom]
  exact Memory.wf_writePage hp h

/-! ### The decision on a request (R161) -/

/-- A request is refused while the memory is ABSENT. -/
theorem memAnswer_absent {r : MemReq} {m : MemCtl} (h : m.status = .absent) : memAnswer r m = .refused .noMemory := by
  simp [memAnswer, h]

/-- A request is refused while the memory is FAILED. -/
theorem memAnswer_failed {r : MemReq} {m : MemCtl} (h : m.status = .failed) : memAnswer r m = .refused .memoryFault := by
  simp [memAnswer, h]

/-- A RECALL-READ replaces an unstarted one, whatever the length of the queue. -/
theorem memAnswer_replaces {r : MemReq} {m : MemCtl} {e : MemEntry} (h : m.status = .present) (hr : r.isRecall = true)
    (hw : m.waitingRecall = some e) : memAnswer r m = .replaces e.req := by
  simp [memAnswer, h, hr, hw]

/-- With room a request joins, a RECALL-READ if none is unstarted. -/
theorem memAnswer_joins {r : MemReq} {m : MemCtl} (h : m.status = .present) (hw : r.isRecall = true → m.waitingRecall = none)
    (hl : m.queue.length < 4) : memAnswer r m = .joins := by
  cases hr : r.isRecall with
  | false => simp [memAnswer, h, hr, Config.memCapacity, hl]
  | true => simp [memAnswer, h, hw hr, Config.memCapacity, hl]

/-- What becomes of a request that finds 4 entries and replaces none. -/
def MemReq.unplaced : MemReq → MemAnswer
  | .recallRead _ _ => .dropped .recallDropped
  | .storeWrite _ _ => .dropped .storeDropped
  | .calWrite _ _ _ _ _ _ | .calRead _ => .waits

/-- At 4 entries it is dropped, or waits. -/
theorem memAnswer_full {r : MemReq} {m : MemCtl} (h : m.status = .present) (hw : r.isRecall = true → m.waitingRecall = none)
    (hl : 4 ≤ m.queue.length) : memAnswer r m = r.unplaced := by
  cases r <;> simp_all [memAnswer, MemReq.isRecall, MemReq.unplaced, Config.memCapacity] <;> exact if_neg (Nat.not_lt.mpr hl)

/-- The one unstarted recall of a queue whose first entry is in flight, and what its removal leaves. -/
theorem waitingRecall_split {m : MemCtl} {e x : MemEntry} {front back : List MemEntry} (hp : m.port.serving = true)
    (hq : m.queue = e :: front ++ x :: back) (hx : x.req.isRecall = true) (ho : ∀ y ∈ front ++ back, y.req.isRecall = false) :
    m.waitingRecall = some x ∧ dropRecall m = { m with queue := e :: front ++ back } := by
  have hf : ∀ y ∈ front, y.req.isRecall = false := fun y hy => ho y (List.mem_append_left _ hy)
  have hb : ∀ y ∈ back, y.req.isRecall = false := fun y hy => ho y (List.mem_append_right _ hy)
  constructor
  · simp [MemCtl.waitingRecall, MemCtl.unstarted, hp, hq, hx, List.find?_append, List.find?_eq_none.mpr (by simpa using hf)]
  · have kept : ∀ l : List MemEntry, (∀ y ∈ l, y.req.isRecall = false) → l.filter (fun y => !y.req.isRecall) = l :=
      fun l hl => List.filter_eq_self.mpr fun y hy => by rw [hl y hy]; rfl
    simp [dropRecall, MemCtl.inFlight, MemCtl.unstarted, hp, hq, hx, List.filter_append, kept front hf, kept back hb]

/-- The page of a request lies among the 70 pages in use (R160). -/
theorem page_lt (r : MemReq) : r.page < 70 := by
  unfold MemReq.page
  split
  · rename_i slot _; exact Nat.lt_trans slot.isLt (by decide)
  · rename_i slot _; exact Nat.lt_trans slot.isLt (by decide)
  · rename_i u _ _ _ _ _; have := u.isLt; omega
  · rename_i u; have := u.isLt; omega

end Sys2Proof.Machine
end

