-- ==== Sys2Proof/Laws/PerInstr.lean ====
section
/-!
SUPPORT. Per-command laws: no word spells a command, since spec/opcode_table.json gives no row any bits.
-/
namespace Sys2Proof.Laws
open Sys2Proof
set_option Elab.async false

/-- No word of any length decodes to the command. -/
def NoBits.Statement (i : Instr) : Prop := ∀ nbits w, decodeTableWord nbits w ≠ some i

theorem NoBits.powerOnReset : NoBits.Statement (.powerOnReset) := by intro _ _ h; cases h
theorem NoBits.resetEnd : NoBits.Statement (.resetEnd) := by intro _ _ h; cases h
theorem NoBits.strapSlotEnd (idLow : Bool) (vcnt : BitVec 3) (scanHigh : Bool) : NoBits.Statement (.strapSlotEnd idLow vcnt scanHigh) := by intro _ _ h; cases h
theorem NoBits.listenTimerExpiry : NoBits.Statement (.listenTimerExpiry) := by intro _ _ h; cases h
theorem NoBits.setupTimerExpiry : NoBits.Statement (.setupTimerExpiry) := by intro _ _ h; cases h
theorem NoBits.transmitStart : NoBits.Statement (.transmitStart) := by intro _ _ h; cases h
theorem NoBits.lostArbitration : NoBits.Statement (.lostArbitration) := by intro _ _ h; cases h
theorem NoBits.collision : NoBits.Statement (.collision) := by intro _ _ h; cases h
theorem NoBits.framingError (found : FramingFault) : NoBits.Statement (.framingError found) := by intro _ _ h; cases h
theorem NoBits.frameDiscarded (frame : RawFrame) : NoBits.Statement (.frameDiscarded frame) := by intro _ _ h; cases h
theorem NoBits.ownFrameTaken : NoBits.Statement (.ownFrameTaken) := by intro _ _ h; cases h
theorem NoBits.noteOn (sender : Station) (note : Note) (velocity : Velocity) : NoBits.Statement (.noteOn sender note velocity) := by intro _ _ h; cases h
theorem NoBits.noteOff (sender : Station) (note : Note) : NoBits.Statement (.noteOff sender note) := by intro _ _ h; cases h
theorem NoBits.sustain (sender : Station) (on : Bool) : NoBits.Statement (.sustain sender on) := by intro _ _ h; cases h
theorem NoBits.allNotesOff (sender : Station) : NoBits.Statement (.allNotesOff sender) := by intro _ _ h; cases h
theorem NoBits.ownClaimTaken (source : Station) (note : Note) (voice : VoiceIdx) : NoBits.Statement (.ownClaimTaken source note voice) := by intro _ _ h; cases h
theorem NoBits.otherClaimTaken (sender source : Station) (note : Note) (voice : VoiceIdx) : NoBits.Statement (.otherClaimTaken sender source note voice) := by intro _ _ h; cases h
theorem NoBits.bend (sender : Station) (value : BitVec 16) : NoBits.Statement (.bend sender value) := by intro _ _ h; cases h
theorem NoBits.param (sender : Station) (index : Byte) (value : BitVec 16) : NoBits.Statement (.param sender index value) := by intro _ _ h; cases h
theorem NoBits.knob (origin : Origin) (number : Byte) (value : BitVec 16) : NoBits.Statement (.knob origin number value) := by intro _ _ h; cases h
theorem NoBits.recall (sender : Station) (slot morph : Byte) : NoBits.Statement (.recall sender slot morph) := by intro _ _ h; cases h
theorem NoBits.store (sender : Station) (slot : Byte) : NoBits.Statement (.store sender slot) := by intro _ _ h; cases h
theorem NoBits.switchTaken (origin : Origin) (number : BitVec 6) (closed : Bool) : NoBits.Statement (.switchTaken origin number closed) := by intro _ _ h; cases h
theorem NoBits.reportTaken (origin : Origin) (ty : ReportType) (subject : Byte) (data : List Byte) : NoBits.Statement (.reportTaken origin ty subject data) := by intro _ _ h; cases h
theorem NoBits.hello (origin : Origin) (part revision voices flags : Byte) : NoBits.Statement (.hello origin part revision voices flags) := by intro _ _ h; cases h
theorem NoBits.setup (sender : Station) (pickup limit steal patch : Byte) : NoBits.Statement (.setup sender pickup limit steal patch) := by intro _ _ h; cases h
theorem NoBits.query (sender target : Station) (item : QueryItem) (subject : Byte) : NoBits.Statement (.query sender target item subject) := by intro _ _ h; cases h
theorem NoBits.restart (sender target : Station) : NoBits.Statement (.restart sender target) := by intro _ _ h; cases h
theorem NoBits.tuneRequest (sender : Station) (stations voices : Byte) : NoBits.Statement (.tuneRequest sender stations voices) := by intro _ _ h; cases h
theorem NoBits.tuneBegin (origin : Origin) (voice : VoiceIdx) (refresh : Bool) : NoBits.Statement (.tuneBegin origin voice refresh) := by intro _ _ h; cases h
theorem NoBits.tuneEnd (origin : Origin) (voice : VoiceIdx) (outcome : TuneOutcome) (detail : Byte) : NoBits.Statement (.tuneEnd origin voice outcome detail) := by intro _ _ h; cases h
theorem NoBits.tuneStop (sender : Station) : NoBits.Statement (.tuneStop sender) := by intro _ _ h; cases h
theorem NoBits.gapTimerExpiry (voice : VoiceIdx) : NoBits.Statement (.gapTimerExpiry voice) := by intro _ _ h; cases h
theorem NoBits.minimumGateExpiry (voice : VoiceIdx) : NoBits.Statement (.minimumGateExpiry voice) := by intro _ _ h; cases h
theorem NoBits.releaseTimerExpiry (voice : VoiceIdx) : NoBits.Statement (.releaseTimerExpiry voice) := by intro _ _ h; cases h
theorem NoBits.claimTimeout (source : Station) (note : Note) : NoBits.Statement (.claimTimeout source note) := by intro _ _ h; cases h
theorem NoBits.glideStep (voice : VoiceIdx) : NoBits.Statement (.glideStep voice) := by intro _ _ h; cases h
theorem NoBits.slotAgeThreshold (slot : SlotIdx) (forced : Bool) : NoBits.Statement (.slotAgeThreshold slot forced) := by intro _ _ h; cases h
theorem NoBits.drdyReady : NoBits.Statement (.drdyReady) := by intro _ _ h; cases h
theorem NoBits.writeComplete : NoBits.Statement (.writeComplete) := by intro _ _ h; cases h
theorem NoBits.holdEnd : NoBits.Statement (.holdEnd) := by intro _ _ h; cases h
theorem NoBits.drdyTimeout : NoBits.Statement (.drdyTimeout) := by intro _ _ h; cases h
theorem NoBits.probeComplete (status : Byte) : NoBits.Statement (.probeComplete status) := by intro _ _ h; cases h
theorem NoBits.pageReadComplete (mdi : OperationEnd MdiPage) : NoBits.Statement (.pageReadComplete mdi) := by intro _ _ h; cases h
theorem NoBits.writePoll (status : OperationEnd Byte) : NoBits.Statement (.writePoll status) := by intro _ _ h; cases h
theorem NoBits.morphStep : NoBits.Statement (.morphStep) := by intro _ _ h; cases h
theorem NoBits.knobRoundStart : NoBits.Statement (.knobRoundStart) := by intro _ _ h; cases h
theorem NoBits.knobSampleEnd (reading : BitVec 12) : NoBits.Statement (.knobSampleEnd reading) := by intro _ _ h; cases h
theorem NoBits.matrixRowEnd (ss : BitVec 8) : NoBits.Statement (.matrixRowEnd ss) := by intro _ _ h; cases h
theorem NoBits.settleTimerExpiry : NoBits.Statement (.settleTimerExpiry) := by intro _ _ h; cases h
theorem NoBits.tinFirstEdge : NoBits.Statement (.tinFirstEdge) := by intro _ _ h; cases h
theorem NoBits.countEnd (count : BitVec 20) : NoBits.Statement (.countEnd count) := by intro _ _ h; cases h
theorem NoBits.startLimitExpiry : NoBits.Statement (.startLimitExpiry) := by intro _ _ h; cases h
theorem NoBits.countOverflow : NoBits.Statement (.countOverflow) := by intro _ _ h; cases h
theorem NoBits.refreshTimerExpiry : NoBits.Statement (.refreshTimerExpiry) := by intro _ _ h; cases h
theorem NoBits.startBitReceived (sampled : Level) : NoBits.Statement (.startBitReceived sampled) := by intro _ _ h; cases h
theorem NoBits.bankChangeGapEnd : NoBits.Statement (.bankChangeGapEnd) := by intro _ _ h; cases h
theorem NoBits.dldPulseEnd (drdyHigh : Bool) : NoBits.Statement (.dldPulseEnd drdyHigh) := by intro _ _ h; cases h
theorem NoBits.pageWriteCommandEnd : NoBits.Statement (.pageWriteCommandEnd) := by intro _ _ h; cases h

end Sys2Proof.Laws
end

