-- ==== Sys2Proof/Laws/Queue.lean ====
section
/-!
SUPPORT. What handing a frame to the Link Controller does (R7, R19 to R21): nothing while the transmitter is off, one more entry
when there is room; and what an insertion keeps.
-/
namespace Sys2Proof.Machine
open Sys2Proof Sys2Proof.Safety

/-- A station whose transmitter is off drops what its blocks hand over. -/
theorem handRanked_off {f : Frame} {r : Nat} {s : State} (h : txEnabled s = false) : handRanked f r s = s := by
  unfold handRanked
  rw [h]
  rfl

/-- A frame other than a Knob enters a queue with room. -/
theorem handRanked_room {f : Frame} {r : Nat} {s : State} (ht : txEnabled s = true) (hl : s.link.queue.length < 16)
    (hk : ∀ k v, f ≠ .knob k v) :
    handRanked f r s = { s with link := enterFrame f (arbField f.cls r (stationId s).val) s.link } := by
  unfold handRanked
  rw [ht]
  have he : enterOrEvict f (arbField f.cls r (stationId s).val) s.link =
      enterFrame f (arbField f.cls r (stationId s).val) s.link := by
    unfold enterOrEvict
    exact if_pos hl
  cases f <;> first | exact absurd rfl (hk _ _) | (simp only [if_true, he])

/-- A frame other than a Knob, handed over with the rank of its kind. -/
theorem hand_room {f : Frame} {s : State} (ht : txEnabled s = true) (hl : s.link.queue.length < 16)
    (hk : ∀ k v, f ≠ .knob k v) :
    hand f s = { s with link := enterFrame f (arbField f.cls (rankOf f) (stationId s).val) s.link } :=
  handRanked_room ht hl hk

/-- An insertion adds one entry. -/
theorem length_insertEntry (e : TxEntry) (q : List TxEntry) : (insertEntry e q).length = q.length + 1 := by
  induction q with
  | nil => rfl
  | cons x rest ih =>
    unfold insertEntry
    split
    · simp only [List.length_cons, ih]
    · rfl

/-- The members of a queue after an insertion. -/
theorem mem_insertEntry {e x : TxEntry} {q : List TxEntry} : x ∈ insertEntry e q ↔ x = e ∨ x ∈ q := by
  induction q with
  | nil => simp [insertEntry]
  | cons y rest ih =>
    unfold insertEntry
    split
    · simp only [List.mem_cons, ih]
      exact or_left_comm
    · simp only [List.mem_cons]

/-- A new entry, whose order number is higher than those queued, keeps the order of R18. -/
theorem insertEntry_ordered {e : TxEntry} {q : List TxEntry} (h : q.Pairwise TxEntry.before) (hn : ∀ x ∈ q, x.order < e.order) :
    (insertEntry e q).Pairwise TxEntry.before := by
  induction q with
  | nil => simp [insertEntry]
  | cons x rest ih =>
    rw [List.pairwise_cons] at h
    unfold insertEntry
    split
    · rename_i hx
      rw [List.pairwise_cons]
      refine ⟨fun y hy => ?_, ih h.2 fun y hy => hn y (List.mem_cons_of_mem _ hy)⟩
      rcases mem_insertEntry.1 hy with rfl | hy
      · have := hn x List.mem_cons_self
        unfold TxEntry.before
        omega
      · exact h.1 y hy
    · rename_i hx
      rw [List.pairwise_cons]
      refine ⟨fun y hy => ?_, List.pairwise_cons.2 h⟩
      rcases List.mem_cons.1 hy with rfl | hy
      · exact Or.inl (by omega)
      · have := h.1 y hy
        unfold TxEntry.before at this ⊢
        omega

end Sys2Proof.Machine
end

