-- ==== Sys2Proof/Laws/Scheduler.lean ====
section
/-!
SUPPORT. What the CV Scheduler's operations can do: the beginning of a write, a selection with the port free, and an abandoned write.
-/
namespace Sys2Proof.Machine
open Sys2Proof Sys2Proof.Safety

/-- The write of the chosen slot begins as R113 and R114 say. -/
theorem beginWrite_begins (i : SlotIdx) (s : State) : WriteBegins s (beginWrite i s) i := by
  have hs : Slot.begin = fun sl => { sl with
      pending := none
      inFlight := match sl.pending, sl.lastWritten with
        | some p, _ => some ⟨p.code, some p.group, p.assign, p.measure⟩
        | none, some c => some ⟨c, none, false, false⟩
        | none, none => sl.inFlight } := by
    funext sl
    obtain ⟨l, w, p, f⟩ := sl
    cases p <;> cases l <;> rfl
  unfold WriteBegins beginWrite updPins updSched updSlot selectPins
  rw [hs]
  rfl

/-- A selection with the port free (R112). -/
theorem select_made {s : State} (h : s.sched.port = .idle) : SelectionMade s (select s) := by
  have hi : (s.sched.port == Port.idle) = true := by rw [h]; rfl
  refine ⟨fun hn => ?_, fun i hs hc => ?_⟩
  · unfold select
    rcases hn with hn | hn
    · simp [hn]
    · simp [hn]
  · have : select s = beginWrite i s := by simp [select, hs, hi, hc]
    exact this ▸ beginWrite_begins i s

/-- While the port is busy there is no selection. -/
theorem select_busy {s : State} (h : s.sched.port ≠ .idle) : select s = s := by
  simp [select, h]

/-- An abandoned write's slot (R116). -/
theorem abandon_slot {sl : Slot} {f : Flight} (h : sl.inFlight = some f) : AbandonedSlot sl f sl.abandon := by
  obtain ⟨l, w, p, g⟩ := sl
  subst h
  obtain ⟨c, fg, a, m⟩ := f
  cases p with
  | none => exact ⟨rfl, rfl, rfl, by simp, fun _ => rfl⟩
  | some p =>
    obtain ⟨pc, pg, pa, pm⟩ := p
    refine ⟨rfl, rfl, rfl, fun q hq => ?_, by simp⟩
    cases hq
    rcases fg with _ | fg <;> cases pg <;> first | rfl | (cases fg <;> rfl)

/-- An abandoned write leaves the port free (R116). -/
theorem abandonWrite_writing {s : State} {i : SlotIdx} {step : WriteStep} {d : Nat} (h : s.sched.port = .writing i step d) :
    abandonWrite s = { s with sched := { s.sched with port := .idle }, slots := updAt s.slots i Slot.abandon } := by
  unfold abandonWrite
  rw [h]
  rfl

end Sys2Proof.Machine
end

