-- ==== Sys2Proof/Laws/Wire.lean ====
section
/-!
SUPPORT. What the waves of the pins carry: the bits read at the clock's rising edges, the length of a command on the memory port, the
bytes it reads on MDI, the comparison of a frame with itself, and the knob that a sample converts.
-/
namespace Sys2Proof.Machine
open Sys2Proof

/-- Clocked bits are read back at the rising edges. -/
theorem onRise_clocked {α : Type} (bits : List α) (last : Bool) : onRise last (clocked bits) = bits := by
  induction bits generalizing last with
  | nil => rfl
  | cons b bits ih => simpa [clocked, onRise] using ih true

/-- Levels with the clock low that follow clocked bits add none. -/
theorem onRise_clocked_append {α : Type} (bits : List α) (last : Bool) (tail : List (Bool × α)) (h : ∀ x ∈ tail, x.1 = false) :
    onRise last (clocked bits ++ tail) = bits := by
  induction bits generalizing last with
  | nil =>
    induction tail generalizing last with
    | nil => rfl
    | cons x tail ih =>
      obtain ⟨c, d⟩ := x
      have hc : c = false := h (c, d) (by simp)
      subst hc
      simpa [clocked, onRise] using ih (fun x hx => h x (by simp [hx])) false
  | cons b bits ih => simpa [clocked, onRise] using ih true

theorem clocked_length {α : Type} (bits : List α) : (clocked bits).length = 2 * bits.length := by
  induction bits with
  | nil => rfl
  | cons b bits ih => simp [clocked] at ih ⊢; omega

/-- R114: the shift presents the bits of the code at the rising edges of DCLK, most significant first. -/
theorem shiftLevels_bits (code : Code) : onRise false ((shiftLevels code).map fun x => (x.dclk, x.ddat)) = bitsMsb code := by
  simpa [shiftLevels, Function.comp_def] using
    onRise_clocked_append (bitsMsb code) false [(false, false), (false, false)] (by simp)

/-- R158: a command on the port has eight bits for each byte sent or read. -/
theorem MemCommand.bits_length (c : MemCommand) : c.bits.length = 8 * (c.sent.length + c.reads) := by
  have h : ∀ l : List Byte, (l.flatMap bitsMsb).length = 8 * l.length := by
    intro l
    induction l with
    | nil => rfl
    | cons b l ih => simp [bitsMsb] at ih ⊢; omega
  simp [MemCommand.bits, h]
  omega

/-- R158: eight half cycles of 125 ns for each microsecond of the command's port time. -/
theorem MemCommand.levels_length (c : MemCommand) : c.levels.length = 8 * c.us := by
  simp [MemCommand.levels, clocked_length, c.bits_length, MemCommand.us]
  omega

/-- R158: MCS is low throughout a command. -/
theorem MemCommand.levels_mcs (c : MemCommand) : ∀ x ∈ c.levels, x.mcs = false := by
  intro x hx
  obtain ⟨y, _, rfl⟩ := List.mem_map.mp hx
  rfl

/-- Levels with the clock low before others add none. -/
theorem onRise_low {α : Type} (low rest : List (Bool × α)) (h : ∀ x ∈ low, x.1 = false) :
    onRise false (low ++ rest) = onRise false rest := by
  induction low with
  | nil => rfl
  | cons x low ih =>
    obtain ⟨c, d⟩ := x
    have hc : c = false := h (c, d) (by simp)
    subst hc
    simpa [onRise] using ih fun x hx => h x (by simp [hx])

/-- R158: MDI levels that last a clock cycle are sampled once in each, and none outside the command. -/
theorem sampledBits_command (c : MemCommand) (before bits after : List Bool) (hb : before.length = 8)
    (hl : bits.length = c.bits.length) :
    sampledBits (memRest ++ c.levels ++ memRest) (before ++ bits.flatMap (fun b => [b, b]) ++ after) = bits := by
  have doubled : ∀ bs : List Bool, (bs.flatMap fun b => [b, b]).length = 2 * bs.length := fun bs => by
    induction bs with
    | nil => rfl
    | cons b bs ih => simp at ih ⊢; omega
  have paired : ∀ (sent : List (Option Bool)) (bs : List Bool), bs.length = sent.length →
      ((((clocked sent).map fun x => (⟨false, x.1, x.2⟩ : MemLevels)).zip (bs.flatMap fun b => [b, b])).map
        fun x => (x.1.mck, x.2)) = clocked bs := fun sent => by
    induction sent with
    | nil => intro bs h; simp [List.length_eq_zero_iff.mp h, clocked]
    | cons o sent ih =>
      intro bs h
      cases bs with
      | nil => simp at h
      | cons b bs => simpa [clocked] using ih bs (by simpa using h)
  have quiet : ∀ (low : List Bool), ∀ x ∈ (memRest.zip low).map (fun x => (x.1.mck, x.2)), x.1 = false := by
    intro low x hx
    obtain ⟨y, hy, rfl⟩ := List.mem_map.mp hx
    have hm : y.1 ∈ memRest := (List.of_mem_zip hy).1
    rw [List.eq_of_mem_replicate hm]
  unfold sampledBits
  rw [List.zip_append (by simp [memRest, hb, MemCommand.levels, clocked_length, doubled, hl]; omega),
    List.zip_append (by simp [memRest, hb]), List.map_append, List.map_append, List.append_assoc, onRise_low _ _ (quiet before)]
  rw [show (List.map (fun x => (x.1.mck, x.2)) (c.levels.zip (bits.flatMap fun b => [b, b]))) = clocked bits from
    paired c.bits bits hl]
  exact onRise_clocked_append bits false _ (quiet after)

/-- The byte that its own bits spell, most significant first. -/
theorem byteOf_bitsMsb : ∀ b : Byte, byteOf (natOfBits (bitsMsb b)) = b := by decide +kernel

/-- R158: bytes presented most significant bit first are the bytes read. -/
theorem bytesOfBits_presented (bytes : List Byte) : bytesOfBits bytes.length (bytes.flatMap bitsMsb) = bytes := by
  induction bytes with
  | nil => rfl
  | cons b bytes ih =>
    have h8 : (bitsMsb b).length = 8 := by simp [bitsMsb]
    rw [List.length_cons, List.flatMap_cons, bytesOfBits, List.take_append_of_le_length (by omega), List.take_of_length_le (by omega),
      byteOf_bitsMsb, List.drop_append_of_le_length (by omega), List.drop_of_length_le (by omega), List.nil_append, ih]

/-- R158: whatever MDI shows while a command sends, the bytes presented after that are the bytes it reads. -/
theorem MemCommand.readBytes_presented (c : MemCommand) (idle : List Bool) (bytes : List Byte)
    (hi : idle.length = 8 * c.sent.length) (hb : bytes.length = c.reads) :
    c.readBytes (idle ++ bytes.flatMap bitsMsb) = bytes := by
  rw [MemCommand.readBytes, ← hi, List.drop_left, ← hb, bytesOfBits_presented]

/-- R158: a step of one command reads the bytes that MDI presents in its read part, whatever the levels before and after. -/
theorem memRead_presented {s : State} {c : MemCommand} (h : memCommands s = [c]) (before idle after : List Bool) (bytes : List Byte)
    (hb : before.length = 8) (hi : idle.length = 8 * c.sent.length) (hr : bytes.length = c.reads) :
    memRead (before ++ (idle ++ bytes.flatMap bitsMsb).flatMap (fun b => [b, b]) ++ after) s = bytes := by
  have bits : ∀ l : List Byte, (l.flatMap bitsMsb).length = 8 * l.length := fun l => by
    induction l with
    | nil => rfl
    | cons b l ih => simp [bitsMsb] at ih ⊢; omega
  have hl : (idle ++ bytes.flatMap bitsMsb).length = c.bits.length := by
    rw [List.length_append, bits, hi, hr, c.bits_length]
    omega
  simp only [memRead, memWave, h, List.flatMap_cons, List.flatMap_nil, List.append_nil]
  rw [sampledBits_command c before _ after hb hl, c.readBytes_presented idle bytes hi hr]

/-- R125: KSEL0–3 at i, or at i − 16, and the input of knob i select knob i. -/
theorem knobInput_selects : ∀ i : Fin 32, (knobInput i).knob (BitVec.ofNat 4 i.val) = i := by decide

/-- R125: the sample that follows another has KSEL0–3 set for its knob. -/
theorem nextSample_selects {i j : Fin 32} {s : State} (h : (nextSample i s).panel.sample = some j) :
    (nextSample i s).pins.ksel = BitVec.ofNat 4 j.val := by
  unfold nextSample at h ⊢
  split at h
  · rename_i hi
    rw [dif_pos hi]
    cases Option.some.inj h
    rfl
  · cases h

/-- R125: so has the first of a round. -/
theorem beginRound_selects (s : State) :
    (beginRound s).panel.sample = some 0 ∧ (beginRound s).pins.ksel = BitVec.ofNat 4 (0 : Fin 32).val := ⟨rfl, rfl⟩

/-- R125: with KSEL0–3 set for knob i the sample of knob i ends with the value of knob i. -/
theorem sampleOutcome_knob {knobs : Fin 32 → BitVec 12} {s : State} {i : Fin 32} (hr : s.panel.running = true)
    (hi : s.panel.sample = some i) (hk : s.pins.ksel = BitVec.ofNat 4 i.val) :
    sampleOutcome (kinOf knobs s) s = some (.knobSampleEnd (knobs i)) := by
  simp [sampleOutcome, sampledKnob, kinOf, hr, hi, hk, knobInput_selects]

/-- R16: a station that reads every bit as it sent it takes its frame. -/
theorem compareBits_self (arb : Nat) (bits : List Level) : compareBits arb bits bits = some .ownFrameTaken := by
  induction bits generalizing arb with
  | nil => rfl
  | cons b bits ih => simpa [compareBits] using ih (arb - 1)

/-- R1: the line is recessive only while no station pulls it low. -/
theorem lineLevel_recessive (drivers : List Level) : lineLevel drivers = .recessive ↔ ∀ l ∈ drivers, l = .recessive := by
  simp [lineLevel]

/-- R1: a station that sends nothing releases VL. -/
theorem vlDriven_released {s : State} (h : s.link.place ≠ .sending) (k : Nat) : vlDriven s k = .recessive := by
  have e : sendingEntry s = none := by
    unfold sendingEntry
    split <;> simp_all
  simp [vlDriven, sentFrame, e]

end Sys2Proof.Machine
end

