-- ==== Sys2Proof/WellFormed.lean ====
section
/-!
DEFINITION. Which commands are events of the device at all: the checks beyond what the operands' types say.
-/
namespace Sys2Proof

/-- A command that some run of the device can meet. A taken Report has the data length of its type (R13). A discarded
frame has a fault: its check or its content (R13), with the length below 15 of R12. A count ends at its Nth edge before
978,499 (R171). A length of 15 ends with at least one recessive bit (R12). A claim offers a voice to a note of velocity 1 to 127, and a Note-On with velocity 0 is the command
NOTE_OFF (R17). -/
def Instr.wellFormed : Instr → Bool
  | .noteOn _ _ velocity => velocity != 0
  | .reportTaken _ type _ data => data.length == type.dataLength
  | .frameDiscarded frame =>
    frame.payload.length < 15 && (match frame.judge with | .taken _ _ => false | _ => true)
  | .framingError (.lengthFifteen run) => run != 0
  | .countEnd count => count.toNat ≤ Config.countMax
  | _ => true

end Sys2Proof
end

