-- ==== Sys2Proof/Tests/Slice0.lean ====
section
/-!
SUPPORT. The writer's own tests: ill-formed commands that the check refuses, the manual's worked examples, and for each statement
with hypotheses concrete states and operands that meet them.
-/
namespace Sys2Proof.Tests
open Sys2Proof Sys2Proof.Machine Sys2Proof.Safety
set_option Elab.async false

/-! ### States -/

/-- Station 2 with three voices, in RUNNING and NORMAL, its memory present and its scheduler started. -/
def base : State := { State.reset with
  now := 5000
  start := { StartUp.reset with
    resetHeld := false, phase := .running, stationId := some 2, voiceCount := 3, scan := true, frozen := true, loadsDone := true }
  link := { Link.reset with place := .inPlace 0 }
  sched := { Sched.reset with started := true }
  mem := { MemCtl.reset with status := .present } }

/-- The base station in another phase. -/
def inPhase (p : Phase) : State := { base with start := { base.start with phase := p } }
/-- The base station in another fault state. -/
def inFault (f : FaultState) : State := { base with start := { base.start with fault := f } }
/-- A queue entry of order number 0. -/
def entry (f : Frame) (onLine : Bool) : TxEntry := ⟨f, arbField f.cls (rankOf f) 2, ownerOf f, 0, onLine, false, none⟩
/-- A station with one queued frame. -/
def queueing (f : Frame) (s : State) : State :=
  { s with link := { s.link with queue := [entry f false], nextOrder := 1 } }
/-- A station sending its one frame. -/
def sending (f : Frame) (s : State) : State :=
  { s with link := { s.link with place := .sending, queue := [entry f true], nextOrder := 1 } }
/-- A station with several queued frames, in their order. -/
def queueAll (fs : List Frame) (s : State) : State :=
  { s with link := { s.link with
      queue := fs.zipIdx.map fun x => { entry x.1 false with order := x.2 }, nextOrder := fs.length } }
/-- The sequencer of the base station, with a state, a voice, a list and an offline set. -/
def tuneIs (q : SeqState) (voice : Option VoiceIdx) (list : List VoiceIdx) (offline : List (Station × VoiceIdx)) : State :=
  { base with tune := { Tune.reset with seq := q, voice := voice, list := list, offline := offline } }
/-- Voice u with its record changed. -/
def voiceIs (u : VoiceIdx) (f : Voice → Voice) (s : State) : State := updVoice u f s
/-- Voice 1 in a state, with the note 60 of station 6. -/
def playingNote (st : VoiceState) : State := voiceIs 1 (fun v => { v with state := st, ident := some ⟨6, 60⟩ }) base
/-- A pending claim of voice 1 for note 60 of station 6. -/
def claim1 : Claim := ⟨⟨6, 60⟩, 100, 1, 0x20, 5, 10000, false⟩
/-- The base station with that claim. -/
def claiming : State := voiceIs 1 (fun v => { v with nominated := true }) { base with claims := [claim1] }
/-- The CV port in a step of a write of slot 9. -/
def writing (step : WriteStep) : State :=
  updSlot 9 (fun x => { x with inFlight := some ⟨500, some .u, false, false⟩ })
    { base with sched := { base.sched with port := .writing 9 step 5010 } }
/-- The memory port at work on a request. -/
def serving (port : MemPort) (r : MemReq) : State := { base with mem := ⟨.present, [⟨r, false⟩], port⟩ }
/-- A measurement of voice 1 at breakpoint k, pass n, with the counter in a state. -/
def measuring (k n : Nat) (c : FreqCounter) : State :=
  voiceIs 1 (fun v => { v with state := .tuning })
    { base with tune := { Tune.reset with
        seq := .measure, voice := some 1, work := some ⟨nominalTable, nominalTable, .osc1, k, n⟩, counter := c } }

/-- The state a command leads to. -/
def after (c : Instr) (s : State) : State :=
  match exec c s with
  | .next t => t
  | _ => s

/-- The number of the knob whose frame this is. -/
def knobNumber : Frame → Option Byte
  | .knob k _ => some k
  | _ => none

/-- The queue law as a test. -/
def queueLawful (s : State) : Bool :=
  decide (s.link.queue.length ≤ 16 ∧
    (s.link.queue.Pairwise fun a b => a.field < b.field ∨ (a.field = b.field ∧ a.order < b.order)) ∧
    (s.link.queue.Pairwise fun a b => knobNumber a.frame = none ∨ knobNumber a.frame ≠ knobNumber b.frame) ∧
    (s.link.queue.Pairwise fun a b => a.order ≠ b.order) ∧ (∀ e ∈ s.link.queue, e.order < s.link.nextOrder) ∧
    (s.link.queue.filter fun e => e.onLine).length = (if s.link.place = .sending then 1 else 0) ∧
    ∀ e ∈ s.link.queue, e.field = arbField e.frame.cls (e.field / 8 % 256) (e.field % 8))

theorem queueLaw_of {s : State} (h : queueLawful s = true) : QueueLaw s := by
  obtain ⟨h1, h2, h3, h4, h5, h6, h7⟩ := of_decide_eq_true h
  refine ⟨h1, h2, h3.imp ?_, h4, h5, h6, fun e he =>
    ⟨⟨e.field / 8 % 256, Nat.mod_lt _ (by decide)⟩, ⟨e.field % 8, Nat.mod_lt _ (by decide)⟩, h7 e he⟩⟩
  intro a b hab
  unfold TxEntry.apart
  split
  · rename_i j x k y hj hk
    rw [hj, hk] at hab
    exact fun hjk => by simp [knobNumber, hjk] at hab
  · trivial

/-! ### Ill-formed commands -/

theorem test_wf_noteOn_velocity_0 : Instr.wellFormed (.noteOn 6 60 0) = false := by decide
theorem test_wf_noteOn : Instr.wellFormed (.noteOn 6 60 100) = true := by decide
theorem test_wf_report_length : Instr.wellFormed (.reportTaken (.line 1) .fault 1 [0, 0]) = false := by decide
theorem test_wf_report : Instr.wellFormed (.reportTaken (.line 1) .fault 1 [0]) = true := by decide
theorem test_wf_discarded_in_form : Instr.wellFormed (.frameDiscarded (Frame.allNotesOff.raw 0 6)) = false := by decide +kernel
theorem test_wf_discarded_length_15 : Instr.wellFormed (.frameDiscarded ⟨0, 0, 6, 3, List.replicate 15 0, 0⟩) = false := by
  decide +kernel
theorem test_wf_discarded : Instr.wellFormed (.frameDiscarded ⟨0, 0, 6, 3, [], 0⟩) = true := by decide +kernel
theorem test_wf_count : Instr.wellFormed (.countEnd 978499) = false := by decide +kernel
theorem test_wf_count_in_range : Instr.wellFormed (.countEnd 978498) = true := by decide +kernel
theorem test_wf_lengthFifteen : Instr.wellFormed (.framingError (.lengthFifteen 0)) = false ∧
    Instr.wellFormed (.framingError (.lengthFifteen 1)) = true := by decide

/-! ### The manual's examples -/

/-- 12, the All-Notes-Off of station 0: check 0xDB, and 36 line bits with its two sync bits. -/
theorem test_crc_of_example : (Frame.allNotesOff.raw 0 0).check = 0xDB ∧ (Frame.allNotesOff.raw 0 0).lineBits.length = 36 := by
  decide +kernel
theorem test_example_read_back : receiveLine (Frame.allNotesOff.raw 0 0).lineBits = some (Frame.allNotesOff.raw 0 0) := by
  decide +kernel
/-- R97: the nominal table at note 60, and above note 120. -/
theorem test_nominal_codes : pitchCode nominalTable 15360 = 30848 ∧ pitchCode nominalTable 30720 = 59648 := by decide +kernel
/-- 04, Worked round: the ranks of station 2. -/
theorem test_ranks :
    rankOfVoice 3000 60 { Voice.reset with state := .held, startTime := some 2200 } = 0x8E ∧
    rankOfVoice 3000 60 { Voice.reset with state := .releasing, releaseSince := some 2900 } = 0x3D ∧
    rankOfVoice 3000 60 { Voice.reset with lastNote := some 57, idleSince := some 2960 } = 0x1F ∧
    rankOfVoice 3000 60 { Voice.reset with lastNote := some 62, idleSince := some 1000 } = 0x11 ∧
    rankOfVoice 3000 60 { Voice.reset with lastNote := some 60, idleSince := some 2990 } = 0x10 := by decide +kernel
/-- 05, Worked case: the codes of P1, CUT and LVL. -/
theorem test_assignment_codes :
    pitchCode #v[2048, 7808, 13568, 19328, 25130, 30912, 36700, 42368, 48128, 53888, 59648] 13816 = 28006 ∧
    pitchCode #v[2048, 7808, 13568, 19328, 25130, 31004, 36790, 42368, 48128, 53888, 59648] 15618 = 31490 ∧
    cutCode 768 32 50 100 13816 = 51266 ∧ levelCode 1023 20 100 = 63312 := by decide +kernel
/-- 07, RELATIVE pickup. -/
theorem test_relative : relativeValue 800 900 300 = 624 ∧ relativeValue 900 700 624 = 486 ∧ relativeValue 700 1023 486 = 1023 := by
  decide
/-- 10, Worked pass: e = 26, and C(5) from 30912 to 30961. -/
theorem test_tune_pass : tuneError 492100 = 26 ∧ tuneError 489290 = 0 ∧
    tabAt (tuneCorrect #v[2048, 7808, 13568, 19328, 25130, 30912, 36700, 42368, 48128, 53888, 59648] 5 26) 5 = 30961 := by
  decide +kernel
/-- 01, Two claims in one gap: a station that sends a claim of its voice with a rank. -/
def claimant (i : Station) (rank : Nat) : State :=
  { base with
    start := { base.start with stationId := some i }
    link := { base.link with
      place := .sending, nextOrder := 1
      queue := [⟨.claim 6 60 1, arbField 1 rank i.val, .allocator, 0, true, false, none⟩] } }
/-- The bits station 2 drives until it loses, and after that releases, on the line with those of station 3. -/
def contested (lost k : Nat) : Level :=
  lineLevel [if k ≤ lost then vlDriven (claimant 2 0x14) k else .recessive, vlDriven (claimant 3 0x12) k]
/-- R9: station 2 loses at the tenth line bit, rank bit 2, and station 3 wins and takes its own frame. -/
theorem test_contest : (claimant 2 0x14).link.queue.map TxEntry.field = [2210] ∧
    (claimant 3 0x12).link.queue.map TxEntry.field = [2195] ∧
    ownOutcome (claimant 2 0x14) ((List.range 10).map (contested 9)) = some .lostArbitration ∧
    ownOutcome (claimant 2 0x14) ((List.range 9).map (contested 9)) = none ∧
    ownOutcome (claimant 3 0x12) ((List.range 80).map (contested 9)) = some .ownFrameTaken := by decide +kernel
/-- R10: a dominant bit read in the end field is a collision at the transmitter. -/
theorem test_end_field_collision :
    ownOutcome (claimant 3 0x12)
      (((List.range 80).map (vlDriven (claimant 3 0x12))).set ((Frame.claim 6 60 1).raw 0x12 3).lineBits.length.pred .dominant) =
    some .collision := by decide +kernel
/-- R158: the bytes and the times of the four commands. -/
theorem test_memory_commands :
    (MemCommand.pageRead 65).sent = [0xD2, 0x10, 0x40] ∧ MemCommand.statusRead.sent = [0xD7] ∧
    [MemCommand.statusRead, .pageRead 65, .writeEnable, .pageWrite 65 (Vector.replicate 64 0)].map MemCommand.us =
      [4, 134, 2, 134] := by decide +kernel

/-! ### Hypotheses: the machine, reset, straps and the join -/

theorem test_hyp_step : ∃ (s : State) (c : Instr) (r : List Instr), s.pending = c :: r ∧ step s = exec c (s.withPending r) :=
  ⟨base.withPending [.transmitStart], .transmitStart, [], rfl, rfl⟩
theorem test_hyp_idle : base.pending = [] := rfl
theorem test_hyp_powerOn : ∃ (s : State) (p : Nat), Memory.wf s.eeprom = true ∧ writtenPage s.mem = some p ∧ p = 63 :=
  ⟨serving (.polling 0 3) (.storeWrite 63 (Vector.replicate 16 0)), 63, by decide +kernel⟩
theorem test_hyp_resetEnd : State.reset.start.resetHeld = true := rfl
theorem test_hyp_slot : ∀ j : Fin 8, ∃ s : State, s.start.phase = .strap ∧ s.start.strapSlot = some j ∧ s.start.slotTimer = some 50 :=
  fun j => ⟨{ State.reset with start := { StartUp.reset with strapSlot := some j, slotTimer := some 50 } }, rfl, rfl, rfl⟩
/-- One slot read low, none, and two. -/
theorem test_hyp_sensed :
    (∀ k : Station, (((1 : BitVec 8).getLsbD k.val || (false && k == 7)) = true ↔ k = 0)) ∧
    (¬ ∃ j : Station, ∀ k : Station, (((0 : BitVec 8).getLsbD k.val || (false && k == 7)) = true ↔ k = j)) ∧
    (¬ ∃ j : Station, ∀ k : Station, (((1 : BitVec 8).getLsbD k.val || (true && k == 7)) = true ↔ k = j)) := by decide +kernel
theorem test_hyp_listen : ∃ s : State, Settled s ∧ s.start.phase = .listen ∧ s.start.listenTimer = some 30000 ∧
    s.start.fault ≠ .silent ∧ s.link.queue.length < 16 :=
  ⟨{ inPhase .listen with start := { (inPhase .listen).start with listenTimer := some 30000 } }, by
    unfold Settled; decide +kernel⟩
theorem test_hyp_setupTimer : ∀ b : Bool, ∃ s : State, s.start.phase = .awaitSetup ∧ s.start.setupTimer = some 300000 ∧
    s.start.loadsDone = b :=
  fun b => ⟨{ base with start := { base.start with phase := .awaitSetup, setupTimer := some 300000, loadsDone := b } }, rfl, rfl, rfl⟩

/-! ### Hypotheses: the line -/

theorem test_hyp_transmit : ∃ (s : State) (e : TxEntry), Settled s ∧ GapPassesAt s 20 ∧ txEnabled s = true ∧ s.link.queue = [e] ∧
    isCheckedBegin e = false :=
  ⟨queueing (.switch 3 true) base, entry (.switch 3 true) false, by unfold Settled; decide +kernel, Or.inl ⟨0, Or.inl rfl, rfl⟩, by
    decide +kernel⟩
theorem test_hyp_transmit_closed : ∃ (s : State) (e : TxEntry), Settled s ∧ GapPassesAt s 20 ∧ canReceive s = true ∧
    txEnabled s = true ∧ s.link.queue = [e] ∧ isCheckedBegin e = false :=
  ⟨queueing (.switch 3 true) { base with link := { base.link with place := .closed 0 5 } }, entry (.switch 3 true) false, by
    unfold Settled; decide +kernel, Or.inl ⟨0, Or.inr ⟨5, rfl⟩, rfl⟩, by decide +kernel⟩
theorem test_hyp_transmit_lost : ∃ (s : State) (e : TxEntry), Settled s ∧ GapPassesAt s 36 ∧ txEnabled s = true ∧
    s.link.queue = [e] ∧ isCheckedBegin e = true ∧ s.tune.offline.length < s.start.limit :=
  ⟨queueing (.tuneBegin 1 false) { base with link := { base.link with place := .lost 0 } }, entry (.tuneBegin 1 false) false, by
    unfold Settled; decide +kernel, Or.inr ⟨0, rfl, rfl⟩, by decide +kernel⟩
/-- At the limit, a Tune-Begin at the head is passed over and the Switch behind it goes on the line, at TRANSMIT_START and at a start
bit of another station. -/
theorem test_hyp_limit :
    let s := queueAll [.tuneBegin 1 false, .switch 3 true] (tuneIs .idle none [] [(0, 0), (1, 0)])
    QueueLaw s ∧ s.start.limit ≤ s.tune.offline.length ∧ s.link.place ≠ .sending ∧ canReceive s = true ∧
    [Instr.transmitStart, .startBitReceived .dominant].map (fun c => (after c s).link.queue.map fun e => (e.frame, e.onLine)) =
      List.replicate 2 [(.switch 3 true, true)] :=
  ⟨queueLaw_of (by decide +kernel), by decide +kernel⟩
theorem test_hyp_untaken : ∃ (s : State) (e : TxEntry), Settled s ∧ QueueLaw s ∧ OnLine s e ∧ e.withdrawn = false ∧
    e.followOn = none ∧ hasLossNotice e.frame = false ∧ s.link.consecutive < 2 :=
  ⟨sending (.switch 3 true) base, entry (.switch 3 true) true, by unfold Settled; decide +kernel,
    queueLaw_of (by decide +kernel), by unfold OnLine; decide +kernel⟩
/-- R5: with no dominant bit among those read of its frame a station counts from the one before; with one among them, from that. -/
theorem test_lost_before :
    let s (p : Place) : State := { base with link := { base.link with before := p } }
    [Place.lost 4900, .closed 4950 0, .closed 4950 5].map (fun p => lostHaving [true] (s p)) =
      [.lost 4900, .lost 4950, .lost 4940] ∧
    lostHaving [false, true, true] (s (.lost 4900)) = .lost 4996 ∧
    (after .transmitStart (queueing (.switch 3 true) base)).link.before = .inPlace 0 := by decide +kernel
theorem test_hyp_thirdCollision : ∃ (s : State) (e : TxEntry), OnLine s e ∧ s.link.consecutive = 2 ∧ s.start.fault ≠ .silent :=
  ⟨{ sending (.switch 3 true) base with link := { (sending (.switch 3 true) base).link with consecutive := 2 } },
    entry (.switch 3 true) true, by unfold OnLine; decide +kernel⟩
theorem test_hyp_faulty : canReceive base = true ∧ crc8 (RawFrame.checkedBits ⟨0, 0, 6, 3, [], 0⟩) ≠ 0 ∧
    Frame.ofContent 0 9 [] = none ∧ Frame.ofContent 0 0 [200, 1] = none := by decide +kernel
theorem test_hyp_helloLost : ∃ (s : State) (e : TxEntry), Settled s ∧ OnLine s e ∧ e.frame = .hello 0x6D 1 3 1 ∧
    e.withdrawn = false ∧ e.followOn = none ∧ s.link.consecutive < 2 ∧ s.start.phase = .announce ∧ s.start.fault ≠ .silent ∧
    s.link.queue.length ≤ 16 :=
  ⟨sending (.hello 0x6D 1 3 1) (inPhase .announce), entry (.hello 0x6D 1 3 1) true, by unfold Settled OnLine; decide +kernel⟩
/-- A start bit at a station that is not ready: the transmitter disabled, no frame, the gap one microsecond short. -/
theorem test_hyp_startBit_receiver :
    (canReceive (inFault .silent) = true ∧ txEnabled (inFault .silent) = false) ∧
    (canReceive base = true ∧ base.link.queue = []) ∧
    (∃ s : State, canReceive s = true ∧ s.link.queue ≠ [] ∧ ∀ g, GapPassesAt s g → s.now < g) :=
  ⟨by decide +kernel, by decide +kernel,
    ⟨queueing (.switch 3 true) { base with link := { base.link with place := .inPlace 4981 } }, by decide +kernel, by decide +kernel,
      fun g h => by
        rcases h with ⟨x, hx | ⟨_, hx⟩, rfl⟩ | ⟨x, hx, rfl⟩
        · cases hx
          decide
        · cases hx
        · cases hx⟩⟩
/-- Ten recessive bit times after the last dominant bit a station reads a start bit; one microsecond before that the count starts
again, in the gap after a frame too. -/
theorem test_early_edge :
    let s (p : Place) : State := { base with link := { base.link with place := p } }
    [Place.lost 4980, .lost 4981, .closed 4980 0, .closed 4981 0, .closed 4996 8, .closed 4997 8].map
        (fun p => (after (.startBitReceived .dominant) (s p)).link.place) =
      [.receiving, .lost 5002, .receiving, .closed 5002 0, .receiving, .closed 5002 0] ∧
    [(3, 4986), (3, 4987), (8, 4996), (8, 4997)].map (fun x => (Place.inPlace x.2).dominant x.1 5000) =
      [.receiving, .closed 5002 0, .receiving, .closed 5002 0] ∧
    [Place.lost 4981, .receiving, .inPlace 4981, .closed 4981 5].map
        (fun p => (after (.startBitReceived .recessive) (s p)).link.place) =
      [.lost 5000, .lost 5000, .closed 5000 0, .closed 5000 0] := by decide +kernel
/-- R3 to R5: the recessive bits that close a frame: the end field alone after a dominant check bit, a recessive sync bit after six
dominant check bits, and recessive check bits, up to five of them. -/
theorem test_closingRun :
    [0x02, 0x00, 0x01, 0x1F].map (fun c => RawFrame.closingRun ⟨0, 0, 0, 3, [], c⟩) = [3, 4, 4, 8] ∧
    (Frame.allNotesOff.raw 0 0).check = 0xDB ∧ (Frame.allNotesOff.raw 0 0).closingRun = 5 := by decide +kernel
/-- R5, R8, R10: the bits read at a difference in the start bit, in the recessive sync bit of the arbitration field, where it is no
collision, and in the last end bit; only those of the start bit hold no dominant one. -/
theorem test_collision_run :
    [0, 6, 35].map (fun k => recessiveTail ((Frame.allNotesOff.raw 0 0).readAtCollision k)) = [1, 0, 0] ∧
    (Frame.allNotesOff.raw 0 0).collisionBits.head? = some 0 ∧ 6 ∉ (Frame.allNotesOff.raw 0 0).collisionBits ∧
    (Frame.allNotesOff.raw 0 0).collisionBits.all (fun k =>
      (k == 0) == ((Frame.allNotesOff.raw 0 0).readAtCollision k).all id) = true := by decide +kernel
/-- A start bit at a ready station, at the moment the gap has passed; and at one whose only frame the check withdraws. -/
theorem test_hyp_startBit_ready :
    (∃ s : State, Settled s ∧ canReceive s = true ∧ GapPassesAt s s.now ∧ txEnabled s = true ∧
      s.link.queue = [entry (.switch 3 true) false]) ∧
    (∃ s : State, Settled s ∧ canReceive s = true ∧ GapPassesAt s 20 ∧ 20 ≤ s.now ∧ txEnabled s = true ∧ s.link.queue ≠ [] ∧
      (∀ e ∈ s.link.queue, isCheckedBegin e = true) ∧ s.start.limit ≤ s.tune.offline.length) :=
  ⟨⟨queueing (.switch 3 true) { base with link := { base.link with place := .lost 4964 } }, by unfold Settled; decide +kernel, by
      decide +kernel, Or.inr ⟨4964, rfl, rfl⟩, by decide +kernel⟩,
    ⟨queueing (.tuneBegin 1 false) (tuneIs .idle none [] [(0, 0), (1, 0)]), by unfold Settled; decide +kernel, by decide +kernel,
      Or.inl ⟨0, Or.inl rfl, rfl⟩, by decide +kernel⟩⟩
theorem test_hyp_ownSwitch : ∃ (s : State) (e : TxEntry), Settled s ∧ OnLine s e ∧ e.followOn = none ∧ e.frame = .switch 3 true :=
  ⟨sending (.switch 3 true) base, entry (.switch 3 true) true, by unfold Settled OnLine; decide +kernel⟩
theorem test_hyp_ownReport : ∃ (s : State) (e : TxEntry), Settled s ∧ OnLine s e ∧ e.followOn = none ∧
    e.frame = .report .fault 1 [9] :=
  ⟨sending (.report .fault 1 [9]) base, entry (.report .fault 1 [9]) true, by unfold Settled OnLine; decide +kernel⟩
theorem test_hyp_silent : dispatchedKind (.noteOff 6 60) = true ∧ canReceive (inFault .silent) = true ∧ Settled (inFault .silent) ∧
    (inFault .silent).start.fault = .silent := by unfold Settled; decide +kernel
theorem test_hyp_strapFault : canReceive (inPhase .strapFault) = true ∧ Settled (inPhase .strapFault) ∧
    (inPhase .strapFault).start.phase = .strapFault := by unfold Settled; decide +kernel

/-! ### Hypotheses: notes and claims -/

theorem test_hyp_noteOn_candidate : Settled base ∧ canReceive base = true ∧ playing base = true ∧ base.start.voiceCount.val ≠ 0 ∧
    base.claims = [] ∧ base.link.queue.length < 16 ∧ holder ⟨6, 60⟩ base = none ∧ bestCandidate 60 base = some (0, 0x20) := by
  unfold Settled; decide +kernel
theorem test_hyp_noteOn_holder : ∃ s : State, Settled s ∧ canReceive s = true ∧ playing s = true ∧ s.start.voiceCount.val ≠ 0 ∧
    s.claims = [] ∧ s.link.queue.length < 16 ∧ holder ⟨6, 60⟩ s = some 1 ∧ (s.voices[(1 : Fin 6)]).nominated = false :=
  ⟨playingNote .held, by unfold Settled; decide +kernel⟩
/-- Each case of a declined Note-On: no voices, not playing, an entry, a nominated holder, no candidate, a full list. -/
theorem test_hyp_declined :
    (∃ s : State, Settled s ∧ canReceive s = true ∧ s.start.voiceCount.val = 0) ∧
    (Settled (inFault .muted) ∧ playing (inFault .muted) = false) ∧
    (Settled claiming ∧ playing claiming = true ∧ claiming.claims.any (fun c => c.ident == ⟨6, 60⟩) = true) ∧
    (∃ s : State, Settled s ∧ playing s = true ∧ s.claims.length < 4 ∧ holder ⟨6, 60⟩ s = some 1 ∧
      (s.voices[(1 : Fin 6)]).nominated = true) ∧
    (∃ s : State, Settled s ∧ playing s = true ∧ s.claims.length < 4 ∧ holder ⟨6, 60⟩ s = none ∧ ∀ u, isCandidate s u = false) ∧
    (∃ s : State, Settled s ∧ playing s = true ∧ (∀ c ∈ s.claims, c.ident ≠ ⟨6, 60⟩) ∧ 4 ≤ s.claims.length) :=
  ⟨⟨{ base with start := { base.start with voiceCount := 0 } }, by unfold Settled; decide +kernel⟩, by unfold Settled; decide +kernel,
    by unfold Settled; decide +kernel,
    ⟨voiceIs 1 (fun v => { v with nominated := true }) (playingNote .held), by unfold Settled; decide +kernel⟩,
    ⟨{ base with voices := Vector.replicate 6 { Voice.reset with state := .retired } }, by unfold Settled; decide +kernel⟩,
    ⟨{ base with claims := List.replicate 4 { claim1 with ident := ⟨6, 61⟩ } }, by unfold Settled; decide +kernel⟩⟩
/-- The boundaries of the rank classes. -/
theorem test_hyp_ranks : rankOfVoice 5 60 Voice.reset = 0x20 ∧
    rankOfVoice 90000 60 { Voice.reset with state := .sustained, startTime := some 0 } = 0x41 ∧
    rankOfVoice 5 60 { Voice.reset with state := .gating, startTime := some 5 } = 0xC0 := by decide +kernel
theorem test_hyp_noteOff (st : VoiceState) (h : st = .gating ∨ st = .held ∨ st = .sustained ∨ st = .releasing) :
    ∃ s : State, Settled s ∧ canReceive s = true ∧ playing s = true ∧ s.claims = [] ∧ holder ⟨6, 60⟩ s = some 1 ∧
      (s.voices[(1 : Fin 6)]).state = st ∧ (s.voices[(1 : Fin 6)]).minGateTimer = none ∧ (s.sources[(6 : Fin 8)]).sustain = false ∧
      (s.live[(13 : Fin 16)]).value ≠ 0 :=
  ⟨playingNote st, by rcases h with h | h | h | h <;> subst h <;> unfold Settled <;> decide +kernel⟩
theorem test_hyp_noteOff_sustain : ∃ s : State, Settled s ∧ holder ⟨6, 60⟩ s = some 1 ∧ (s.voices[(1 : Fin 6)]).state = .held ∧
    (s.sources[(6 : Fin 8)]).sustain = true :=
  ⟨updSource 6 (fun e => { e with sustain := true }) (playingNote .held), by unfold Settled; decide +kernel⟩
theorem test_hyp_noteOff_minGate : ∃ s : State, Settled s ∧ holder ⟨6, 60⟩ s = some 1 ∧ (s.voices[(1 : Fin 6)]).state = .held ∧
    (s.voices[(1 : Fin 6)]).minGateTimer ≠ none :=
  ⟨voiceIs 1 (fun v => { v with minGateTimer := some 7000 }) (playingNote .held), by unfold Settled; decide +kernel⟩
/-- A claim with its frame queued, and one with its frame on the line. -/
theorem test_hyp_claims :
    (∃ s : State, Settled s ∧ ClaimLaw s ∧ QueueLaw s ∧ canReceive s = true ∧ playing s = true ∧ claim1 ∈ s.claims ∧
      s.link.queue.any (fun e => isClaimFor claim1.ident e.frame) = true) ∧
    (∃ (s : State) (e : TxEntry), Settled s ∧ ClaimLaw s ∧ OnLine s e ∧
      e.frame = .claim claim1.ident.source claim1.ident.note 1 ∧ e.withdrawn = false ∧ e.followOn = none ∧
      s.link.consecutive < 2 ∧ claim1 ∈ s.claims) :=
  ⟨⟨queueing (.claim 6 60 1) claiming, by unfold Settled; decide +kernel, by unfold ClaimLaw; decide +kernel, queueLaw_of (by
      decide +kernel), by decide +kernel⟩,
    ⟨sending (.claim 6 60 1) claiming, entry (.claim 6 60 1) true, by unfold Settled ClaimLaw OnLine; decide +kernel⟩⟩
/-- All-Notes-Off with RELHOLD at 64 and at 0, and Sustain. -/
theorem test_hyp_release : ∃ s : State, Settled s ∧ canReceive s = true ∧ playing s = true ∧ served s 1 = true ∧
    (s.voices[(1 : Fin 6)]).isOf 6 = true ∧ (s.voices[(1 : Fin 6)]).state = .sustained ∧ (s.live[(13 : Fin 16)]).value = 0 :=
  ⟨updParam 13 (fun _ => Param.settled 0) (playingNote .sustained), by unfold Settled; decide +kernel⟩
theorem test_hyp_release_hold : Settled (playingNote .sustained) ∧ playing (playingNote .sustained) = true ∧
    ((playingNote .sustained).voices[(1 : Fin 6)]).state.playsNote = true ∧
    ((playingNote .sustained).live[(13 : Fin 16)]).value ≠ 0 := by unfold Settled; decide +kernel
theorem test_hyp_wonClaim : ∃ (s : State) (e : TxEntry), Settled s ∧ ClaimLaw s ∧ OnLine s e ∧ e.frame = .claim 6 60 1 ∧
    e.followOn = none ∧ playing s = true ∧ claim1 ∈ s.claims ∧ (s.voices[(1 : Fin 6)]).state.assignable = true :=
  ⟨sending (.claim 6 60 1) claiming, entry (.claim 6 60 1) true, by unfold Settled ClaimLaw OnLine; decide +kernel⟩
theorem test_hyp_bend : Settled base ∧ canReceive base = true ∧ playing base = true ∧
    (base.sources[(6 : Fin 8)]).bend = max (-8192) (min 8191 (0 : BitVec 16).toInt) := by unfold Settled; decide +kernel

/-! ### Hypotheses: the patch -/

theorem test_hyp_param : Settled base ∧ canReceive base = true ∧ following base = true ∧ (15 : Byte).toNat = (15 : Fin 16).val ∧
    16 ≤ (16 : Byte).toNat := by unfold Settled; decide +kernel
theorem test_hyp_ownKnob : ∃ (s : State) (e : TxEntry), Settled s ∧ OnLine s e ∧ e.frame = .knob 15 512 ∧ e.followOn = none ∧
    e.withdrawn = false ∧ following s = true :=
  ⟨sending (.knob 15 512) base, entry (.knob 15 512) true, by unfold Settled OnLine; decide +kernel⟩
theorem test_hyp_followOn : ∃ (s : State) (e : TxEntry), QueueLaw s ∧ Settled s ∧ OnLine s e ∧ e.frame = .knob 70 512 ∧
    e.followOn = some 513 ∧ e.withdrawn = false ∧ s.link.consecutive < 2 :=
  ⟨{ base with link := { base.link with
      place := .sending, queue := [{ entry (.knob 70 512) true with followOn := some 513 }], nextOrder := 1 } },
    { entry (.knob 70 512) true with followOn := some 513 }, queueLaw_of (by decide +kernel), by
    unfold Settled OnLine; decide +kernel⟩
theorem test_hyp_recall : Settled base ∧ canReceive base = true ∧ following base = true ∧ base.mem.status = .present ∧
    base.mem.queue.length < 4 ∧ base.mem.waitingRecall = none ∧ base.mem.port = .idle ∧ (63 : Byte).toNat = (63 : Fin 64).val ∧
    64 ≤ (64 : Byte).toNat := by unfold Settled; decide +kernel
/-- The base station with a memory status, and at work on a queue. -/
def requested (st : MemStatus) (q : List MemReq) : State := { base with mem := ⟨st, q.map fun r => ⟨r, false⟩, .reading 5010⟩ }
/-- R161: the Reports of a Recall and a Store that do not both join: refused, an unstarted recall replaced, and a full queue. -/
theorem test_hyp_requests :
    let stores (n : Nat) : List MemReq := List.replicate n (.storeWrite 1 (Vector.replicate 16 0))
    let told (s : State) := [Instr.recall 6 63 0, .store 6 63].map fun c => (after c s).link.queue.map TxEntry.frame
    ([MemStatus.absent, .failed].map fun st => told (requested st [])) =
      [4, 5].map (fun c => List.replicate 2 [Frame.report .memory c [63]]) ∧
    told (requested .present (.recallRead 9 0 :: stores 1 ++ .recallRead 8 3 :: stores 1)) =
      [[.report .memory 2 [8]], [.report .memory 3 [63]]] ∧
    told (requested .present (stores 4)) = [[.report .memory 2 [63]], [.report .memory 3 [63]]] ∧
    told (requested .present (.recallRead 9 0 :: [.recallRead 8 3])) = [[.report .memory 2 [8]], []] ∧
    Settled (requested .present (stores 4)) ∧ following (requested .present (stores 4)) = true ∧
    (requested .present (stores 4)).mem.waitingRecall = none ∧ (requested .present (stores 4)).mem.port.serving = true := by
  unfold Settled; decide +kernel
theorem test_hyp_morph : ∃ (s : State) (r : Morph), Settled s ∧ (s.live[(3 : Fin 16)]).morph = some r ∧
    (∀ p : Fin 16, p ≠ 3 → (s.live[p]).morph = none) :=
  ⟨updParam 3 (fun _ => ⟨0, some ⟨0, 1023, 4, 2, 1⟩⟩) base, ⟨0, 1023, 4, 2, 1⟩, by unfold Settled; decide +kernel⟩

/-! ### Hypotheses: station frames -/

theorem test_hyp_ownHello (b : Bool) : ∃ (s : State) (e : TxEntry), Settled s ∧ OnLine s e ∧ e.frame = .hello 0x6D 1 3 1 ∧
    e.followOn = none ∧ s.start.phase = .announce ∧ s.start.fault ≠ .silent ∧ s.start.frozen = b :=
  ⟨sending (.hello 0x6D 1 3 1) { base with start := { base.start with phase := .announce, frozen := b } },
    entry (.hello 0x6D 1 3 1) true, by cases b <;> unfold Settled OnLine <;> decide +kernel⟩
theorem test_hyp_hello : Settled base ∧ ClaimLaw base ∧ canReceive base = true ∧ dispatching base = true ∧
    base.link.queue.length < 16 ∧ (2 : Station) = stationId base ∧ (6 : Station) ≠ stationId base ∧
    base.start.phase = .running := by unfold Settled ClaimLaw; decide +kernel
theorem test_hyp_hello_joining : Settled (inPhase .loading) ∧ canReceive (inPhase .loading) = true ∧
    dispatching (inPhase .loading) = true ∧ (inPhase .loading).start.phase ≠ .running := by unfold Settled; decide +kernel
theorem test_hyp_setup (p : Phase) (h : p = .listen ∨ p = .announce ∨ p = .awaitSetup) : ∃ s : State, Settled s ∧
    canReceive s = true ∧ s.start.frozen = false ∧ s.start.fault ≠ .silent ∧ s.start.phase = p :=
  ⟨{ base with start := { base.start with phase := p, frozen := false } }, by
    rcases h with h | h | h <;> subst h <;> unfold Settled <;> decide +kernel⟩
theorem test_hyp_query : (2 : Station) = stationId base ∧ dispatching base = true ∧ base.start.phase ≠ .listen ∧
    base.link.queue.length < 15 ∧ (2 : Byte).toNat = (2 : VoiceIdx).val ∧ served base 2 = true ∧
    (18 : Byte).toNat = 16 + (2 : VoiceIdx).val ∧ (34 : Byte).toNat = 32 + (2 : VoiceIdx).val := by decide +kernel
/-- Subjects that name no voice or oscillator of a station with three voices. -/
theorem test_hyp_unanswered :
    (∀ b ∈ ([3, 18] : List Byte), ∀ u : VoiceIdx, served base u = true → b.toNat ≠ u.val) ∧
    (∀ b ∈ ([2, 19, 35, 48] : List Byte), ∀ u : VoiceIdx, served base u = true →
      b.toNat ≠ 16 + u.val ∧ b.toNat ≠ 32 + u.val) := by decide +kernel
theorem test_hyp_restart : canReceive (inFault .silent) = true ∧ (2 : Station) = stationId (inFault .silent) ∧
    (inFault .silent).start.phase.joined = true := by decide +kernel

/-! ### Hypotheses: tuning -/

theorem test_hyp_tuneRequest : Settled base ∧ canReceive base = true ∧ playing base = true ∧
    (4 : Byte).getLsbD (stationId base).val = true ∧ base.tune.seq = .idle ∧ base.tune.list = [] ∧
    base.tune.offline.length < base.start.limit ∧ (4 : Byte).getLsbD (2 : VoiceIdx).val = true ∧ served base 2 = true ∧
    qualifies base 2 = true ∧ (∀ v : VoiceIdx, v < 2 → (4 : Byte).getLsbD v.val = false) := by unfold Settled; decide +kernel
theorem test_hyp_tuneRequest_busy : Settled (measuring 1 1 .idle) ∧ playing (measuring 1 1 .idle) = true ∧
    (measuring 1 1 .idle).tune.seq ≠ .idle := by unfold Settled; decide +kernel
theorem test_hyp_ownTuneBegin : ∃ (s : State) (e : TxEntry), Settled s ∧ following s = true ∧ OnLine s e ∧
    e.frame = .tuneBegin 1 false ∧ e.followOn = none ∧ s.tune.seq = .waitSlot ∧ s.tune.voice = some 1 ∧
    (s.voices[(1 : Fin 6)]).state = .tuneWait :=
  ⟨sending (.tuneBegin 1 false) (voiceIs 1 (fun v => { v with state := .tuneWait })
      { base with tune := { base.tune with seq := .waitSlot, voice := some 1 } }),
    entry (.tuneBegin 1 false) true, by unfold Settled OnLine; decide +kernel⟩
theorem test_hyp_tuneEnd_line : Settled base ∧ following base = true ∧ canReceive base = true ∧ (6 : Station) ≠ stationId base ∧
    base.tune.seq ≠ .waitSlot := by unfold Settled; decide +kernel
/-- A sequencer in WAIT-SLOT without a voice: with no voice listed, with voice 1 held and listed, and with voice 2 free. -/
theorem test_hyp_tuneEnd_wakes :
    let s (list : List VoiceIdx) := voiceIs 1 (fun v => { v with state := .held }) (tuneIs .waitSlot none list [(6, 0), (6, 1)])
    (∀ list : List VoiceIdx, list = [] ∨ list = [1] ∨ list = [1, 2] → Settled (s list) ∧ canReceive (s list) = true ∧
      following (s list) = true ∧ (s list).tune.seq = .waitSlot ∧ (s list).tune.voice = none ∧
      ((6, 0) : Station × VoiceIdx) ∈ (s list).tune.offline ∧ (s list).link.queue.length < 16 ∧
      ((s list).tune.offline.filter (fun p => p != (6, 0))).length < (s list).start.limit) ∧
    (∀ v ∈ (s [1]).tune.list, qualifies (s [1]) v = false) ∧ LowestQualifies (s [1, 2]) 2 :=
  ⟨fun list h => by rcases h with h | h | h <;> subst h <;> unfold Settled <;> decide +kernel, by decide +kernel, by
    unfold LowestQualifies; decide +kernel⟩
/-- The own Tune-End awaited in END-WAIT, with the same lists; and its loss by a collision. -/
theorem test_hyp_ownTuneEnd :
    let s (list : List VoiceIdx) := sending (.tuneEnd 2 .ok 0)
      (voiceIs 1 (fun v => { v with state := .held }) (tuneIs .endWait (some 2) list [(2, 2), (6, 1)]))
    (∀ list : List VoiceIdx, list = [] ∨ list = [1] ∨ list = [1, 2] → Settled (s list) ∧ following (s list) = true ∧
      OnLine (s list) (entry (.tuneEnd 2 .ok 0) true) ∧ (s list).tune.seq = .endWait ∧ (s list).tune.voice = some 2 ∧
      (s list).link.queue.length < 16 ∧ txEnabled (s list) = true ∧ (s list).link.consecutive < 2 ∧
      ((s list).tune.offline.filter (fun p => p != (2, 2))).length < (s list).start.limit) ∧
    (∀ v ∈ (s [1]).tune.list, qualifies (s [1]) v = false) ∧ LowestQualifies (s [1, 2]) 2 :=
  ⟨fun list h => by rcases h with h | h | h <;> subst h <;> unfold Settled OnLine <;> decide +kernel, by decide +kernel, by
    unfold LowestQualifies; decide +kernel⟩
/-- A sequencer that rests in SELECT while voice 1 is releasing: voice 1 listed, below the limit and at it; and voice 2, held, listed
in its place. -/
theorem test_hyp_select :
    let s (list : List VoiceIdx) (offline : List (Station × VoiceIdx)) := voiceIs 2 (fun v => { v with state := .held })
      (voiceIs 1 (fun v => { v with state := .releasing, releaseTimer := some 7000 }) (tuneIs .select none list offline))
    let idle (s : State) : State := { s with
      now := 7000
      voices := updAt s.voices 1 fun v => { v with state := .idle, ident := none, idleSince := some 7, releaseTimer := none } }
    (∀ o : List (Station × VoiceIdx), o = [] ∨ o = [(6, 0), (6, 1)] → Quiet (s [1] o) ∧ LowestQualifies (idle (s [1] o)) 1) ∧
    Quiet (s [2] []) ∧ qualifies (idle (s [2] [])) 2 = false ∧
    (after (.releaseTimerExpiry 1) (s [1] [])).tune.voice = some 1 ∧
    (after (.releaseTimerExpiry 1) (s [1] [(6, 0), (6, 1)])).tune.voice = none :=
  ⟨fun o h => by rcases h with h | h <;> subst h <;> unfold Quiet LowestQualifies <;> decide +kernel, by
    unfold Quiet; decide +kernel⟩
theorem test_hyp_tuneStop : Settled (measuring 9 4 .idle) ∧ canReceive (measuring 9 4 .idle) = true ∧
    following (measuring 9 4 .idle) = true ∧ (measuring 9 4 .idle).tune.seq = .measure ∧
    (measuring 9 4 .idle).tune.voice = some 1 ∧ ((measuring 9 4 .idle).voices[(1 : Fin 6)]).state = .tuning ∧
    (measuring 9 4 .idle).tune.work.isSome = true := by unfold Settled; decide +kernel
/-- The other states of the sequencer at a Tune-Stop; in WAIT-SLOT voice 1 waits with its Tune-Begin queued. -/
theorem test_hyp_tuneStop_states :
    (∀ q : SeqState, q = .idle ∨ q = .commit ∨ q = .endWait ∨ q = .select ∨ q = .waitSlot →
      Quiet (tuneIs q none [1] []) ∧ canReceive (tuneIs q none [1] []) = true ∧ following (tuneIs q none [1] []) = true) ∧
    ∃ s : State, Quiet s ∧ QueueLaw s ∧ canReceive s = true ∧ following s = true ∧ s.tune.seq = .waitSlot ∧
      s.tune.voice = some 1 ∧ (s.voices[(1 : Fin 6)]).state = .tuneWait ∧
      s.link.queue.map TxEntry.frame = [.tuneBegin 1 false, .switch 3 true] :=
  ⟨fun q h => by rcases h with h | h | h | h | h <;> subst h <;> unfold Quiet <;> decide +kernel,
    ⟨queueAll [.tuneBegin 1 false, .switch 3 true] (voiceIs 1 (fun v => { v with state := .tuneWait }) (tuneIs .waitSlot (some 1) [1] [])),
      by unfold Quiet; decide +kernel, queueLaw_of (by decide +kernel), by decide +kernel⟩⟩
/-- A Tune-Begin on the line that meets a collision: at the limit, below it, and a refresh. -/
theorem test_hyp_tuneBeginLost :
    let s (o : List (Station × VoiceIdx)) := sending (.tuneBegin 1 false)
      (voiceIs 1 (fun v => { v with state := .tuneWait }) (tuneIs .waitSlot (some 1) [1] o))
    let m := measuring 1 1 .idle
    let r := sending (.tuneBegin 1 true) { m with tune := { m.tune with refreshMark := true } }
    (∀ o : List (Station × VoiceIdx), o = [] ∨ o = [(6, 0), (6, 1)] → Settled (s o) ∧
      OnLine (s o) (entry (.tuneBegin 1 false) true) ∧ txEnabled (s o) = true ∧ (s o).link.consecutive < 2 ∧
      ((s o).voices[(1 : Fin 6)]).state = .tuneWait ∧ ((s o).voices[(1 : Fin 6)]).nominated = false) ∧
    LowestQualifies { s [] with voices := updAt (s []).voices 1 fun v => { v with state := priorState (s []) 1 } } 1 ∧
    (Settled r ∧ OnLine r (entry (.tuneBegin 1 true) true) ∧ txEnabled r = true ∧ r.tune.voice = some 1 ∧
      (r.voices[(1 : Fin 6)]).state = .tuning ∧ r.tune.refreshMark = true) :=
  ⟨fun o h => by rcases h with h | h <;> subst h <;> unfold Settled OnLine <;> decide +kernel, by
    unfold LowestQualifies; decide +kernel, by unfold Settled OnLine; decide +kernel⟩

/-! ### Hypotheses: voice timers and pitch -/

theorem test_hyp_gap : ∃ s : State, Settled s ∧ (s.voices[(1 : Fin 6)]).gapTimer = some 7000 ∧ playing s = true ∧
    served s 1 = true ∧ (s.voices[(1 : Fin 6)]).state = .gating ∧ (s.voices[(1 : Fin 6)]).doneP1 = true ∧
    (s.voices[(1 : Fin 6)]).doneP2 = true :=
  ⟨voiceIs 1 (fun v => { v with gapTimer := some 7000, doneP1 := true, doneP2 := true }) (playingNote .gating), by
    unfold Settled; decide +kernel⟩
theorem test_hyp_gap_waits : ∃ s : State, Settled s ∧ (s.voices[(1 : Fin 6)]).gapTimer = some 7000 ∧
    (s.voices[(1 : Fin 6)]).doneP1 = false :=
  ⟨voiceIs 1 (fun v => { v with gapTimer := some 7000 }) (playingNote .gating), by unfold Settled; decide +kernel⟩
theorem test_hyp_minGate (b : Bool) : ∃ s : State, Settled s ∧ (s.voices[(1 : Fin 6)]).minGateTimer = some 7000 ∧
    (s.voices[(1 : Fin 6)]).state = .held ∧ (s.voices[(1 : Fin 6)]).ident = some ⟨6, 60⟩ ∧
    (s.live[(13 : Fin 16)]).value ≠ 0 ∧ (s.sources[(6 : Fin 8)]).sustain = b :=
  ⟨updSource 6 (fun e => { e with sustain := b }) (voiceIs 1 (fun v => { v with minGateTimer := some 7000 }) (playingNote .held)), by
    cases b <;> unfold Settled <;> decide +kernel⟩
theorem test_hyp_releaseTimer : ∃ s : State, Settled s ∧ (s.voices[(1 : Fin 6)]).releaseTimer = some 7000 ∧ s.now ≤ 7000 ∧
    (s.voices[(1 : Fin 6)]).state = .releasing :=
  ⟨voiceIs 1 (fun v => { v with releaseTimer := some 7000 }) (playingNote .releasing), by unfold Settled; decide +kernel⟩
theorem test_hyp_claimTimeout : Settled claiming ∧ ClaimLaw claiming ∧ claim1 ∈ claiming.claims ∧ claim1.expired = false ∧
    claimOnLine claim1.ident claiming = false ∧ Settled (sending (.claim 6 60 1) claiming) ∧
    ClaimLaw (sending (.claim 6 60 1) claiming) ∧ claimOnLine claim1.ident (sending (.claim 6 60 1) claiming) = true := by
  unfold Settled ClaimLaw; decide +kernel
theorem test_hyp_glide : ∃ s : State, Settled s ∧ (s.glides[(1 : Fin 6)]).timer = some 6000 ∧
    (s.voices[(1 : Fin 6)]).state.computed = true ∧ PortLaw s :=
  ⟨updGlide 1 (fun _ => ⟨15360, 18432, some 6000, false⟩) base, by unfold Settled; decide +kernel, by decide +kernel, by
    decide +kernel, by
    intro i h
    exact absurd (show _ = none from by
      have : ∀ i : SlotIdx, ((updGlide 1 (fun _ => ⟨15360, 18432, some 6000, false⟩) base).slots[i]).inFlight = none := by
        decide +kernel
      exact this i) h⟩
theorem test_hyp_pitch : (32767 : Nat) ≤ 32767 ∧ increasing nominalTable = true := by decide +kernel

/-! ### Hypotheses: the CV port -/

/-- A slot written long ago, one pending in group U, one in group M, and one of age 2 ms; at an age one microsecond less none; and of
two pending slots that of the last bank, or without one the lower. -/
theorem test_hyp_tiers :
    (∃ s : State, chosenSlot s = some 9 ∧ aged 3500 s 9 = true ∧ served s (voiceOf 9) = true) ∧
    (∃ s : State, chosenSlot s = some 10 ∧ pendingIn .u s 10 = true ∧ s.sched.lastBank = some (voiceOf 10) ∧
      ∀ j : SlotIdx, aged 3500 s j = false) ∧
    (∃ s : State, chosenSlot s = some 11 ∧ pendingIn .m s 11 = true ∧ ∀ j : SlotIdx, pendingIn .u s j = false) ∧
    (∃ s : State, chosenSlot s = some 12 ∧ aged 2000 s 12 = true ∧ ∀ j : SlotIdx, (s.slots[j]).pending = none) ∧
    chosenSlot (updSlot 12 (fun _ => ⟨some 5, some 3001, none, none⟩) base) = none ∧
    [none, some 1, some 2].map (fun b => chosenSlot (updSlot 17 (fun _ => ⟨none, none, some ⟨6, .u, false, false⟩, none⟩)
        (updSlot 10 (fun _ => ⟨none, none, some ⟨6, .u, false, false⟩, none⟩)
          { base with sched := { base.sched with lastBank := b } }))) = [some 10, some 10, some 17] :=
  ⟨⟨updSlot 9 (fun _ => ⟨some 5, some 1500, none, none⟩) base, by decide +kernel⟩,
    ⟨updSlot 10 (fun _ => ⟨some 5, some 1501, some ⟨6, .u, false, false⟩, none⟩)
      { base with sched := { base.sched with lastBank := some 1 } }, by decide +kernel⟩,
    ⟨updSlot 11 (fun _ => ⟨none, none, some ⟨6, .m, false, false⟩, none⟩) base, by decide +kernel⟩,
    ⟨updSlot 12 (fun _ => ⟨some 5, some 3000, none, none⟩) base, by decide +kernel⟩, by decide +kernel⟩
theorem test_hyp_age : ∃ s : State, (s.slots[(9 : Fin 48)]).writtenAt = some 4000 ∧ selecting s = true ∧ s.sched.port = .idle ∧
    chosenSlot { s with now := max s.now (4000 + 2000) } = some 9 :=
  ⟨updSlot 9 (fun _ => ⟨some 5, some 4000, none, none⟩) base, by decide +kernel⟩
theorem test_hyp_age_busy : ∃ s : State, (s.slots[(9 : Fin 48)]).writtenAt = some 4000 ∧ s.sched.port ≠ .idle :=
  ⟨updSlot 9 (fun x => { x with writtenAt := some 4000 }) (writing .acquire), by decide +kernel⟩
theorem test_hyp_writing (st : WriteStep) : (writing st).sched.port = .writing 9 st 5010 := rfl
theorem test_hyp_writeComplete : Settled (writing .acquire) ∧
    ((writing .acquire).slots[(9 : Fin 48)]).inFlight = some ⟨500, some .u, false, false⟩ := by unfold Settled; decide +kernel
theorem test_hyp_writeComplete_marks : ∃ s : State, Settled s ∧ s.sched.port = .writing 9 .acquire 5010 ∧
    (s.slots[(9 : Fin 48)]).inFlight = some ⟨500, some .u, true, true⟩ ∧ s.tune.seq = .measure ∧ s.tune.voice = some (voiceOf 9) :=
  ⟨updSlot 9 (fun x => { x with inFlight := some ⟨500, some .u, true, true⟩ })
    { writing .acquire with tune := { Tune.reset with seq := .measure, voice := some 1 } }, by unfold Settled; decide +kernel⟩
/-- The end of a hold whose slot was written 1 µs before: without a candidate, with slot 10 pending, and with the scheduler stopped. -/
theorem test_hyp_holdEnd :
    let s := updSlot 9 (fun x => { x with lastWritten := some 500, writtenAt := some 5009 }) (writing .hold)
    let freed (s : State) : State := { s with
      now := 5010, sched := { s.sched with port := .idle }, slots := updAt s.slots 9 fun x => { x with inFlight := none } }
    let p := updSlot 10 (fun x => { x with pending := some ⟨6, .u, false, false⟩ }) s
    (selecting s = true ∧ chosenSlot (freed s) = none) ∧ (selecting p = true ∧ chosenSlot (freed p) = some 10) ∧
    selecting { s with sched := { s.sched with stopped := true } } = false := by decide +kernel
/-- R114: the code 500 at the rising edges of DCLK, and one DLD pulse. -/
theorem test_shift : onRise false ((cvWave (writing .shift)).map fun x => (x.dclk, x.ddat)) = bitsMsb (500 : Code) ∧
    ((cvWave (writing .shift)).filter CvLevels.dld).length = 1 := by decide +kernel
/-- A DRDY timeout of slot 9: the first, with no code pending and with one pending in group M; and the third, in NORMAL and in MUTED. -/
def timingOut (n : Nat) (f : FaultState) (p : Option Pend) : State :=
  updSlot 9 (fun x => { x with pending := p })
    { writing .ready with
      sched := { (writing .ready).sched with timeouts := n }
      start := { base.start with fault := f } }
theorem test_hyp_drdyTimeout :
    (∀ n f, (n = 0 ∨ n = 1 ∨ n = 2) → (f = .normal ∨ f = .muted) → ∀ p, (p = none ∨ p = some ⟨7, .m, true, false⟩) →
      Settled (timingOut n f p) ∧ (timingOut n f p).sched.port = .writing 9 .ready 5010 ∧
      (timingOut n f p).sched.timeouts = n ∧ (timingOut n f p).start.fault = f ∧ (timingOut n f p).tune.seq = .idle ∧
      (timingOut n f p).link.queue.length < 16 ∧ txEnabled (timingOut n f p) = true ∧
      ((timingOut n f p).slots[(9 : Fin 48)]).inFlight = some ⟨500, some .u, false, false⟩) ∧
    ((after .drdyTimeout (timingOut 0 .normal none)).slots[(9 : Fin 48)]).inFlight = some ⟨500, some .u, false, false⟩ ∧
    ((after .drdyTimeout (timingOut 2 .muted (some ⟨7, .m, true, false⟩))).slots[(9 : Fin 48)]).pending =
      some ⟨7, .u, true, false⟩ ∧
    (Settled (sending (.switch 3 true) (timingOut 2 .muted none)) ∧
      OnLine (sending (.switch 3 true) (timingOut 2 .muted none)) (entry (.switch 3 true) true)) :=
  ⟨fun n f hn hf p hp => by
    rcases hn with hn | hn | hn <;> rcases hf with hf | hf <;> rcases hp with hp | hp <;> subst hn <;> subst hf <;> subst hp <;>
      unfold Settled <;> decide +kernel, by decide +kernel, by decide +kernel, by unfold Settled OnLine; decide +kernel⟩

/-! ### Hypotheses: the memory port -/

theorem test_hyp_probe : ∃ s : State, Settled s ∧ s.start.phase = .loading ∧ s.start.load = .probing ∧ s.mem.port = .probing 5010 ∧
    s.mem.queue = [] ∧ s.link.queue.length < 14 :=
  ⟨{ base with start := { base.start with phase := .loading, load := .probing }, mem := ⟨.unknown, [], .probing 5010⟩ }, by
    unfold Settled; decide +kernel⟩
theorem test_hyp_calRead : ∃ (s : State) (e x : MemEntry) (page : Vector Byte 64), Settled s ∧ s.mem.port = .reading 5010 ∧
    s.mem.queue = [e, x] ∧ e.discard = false ∧ s.tune.seq ≠ .commit ∧ e.req = .calRead 1 ∧ s.start.load = .reads [] ∧
    x.req.isWrite = false ∧ judgeCal 1 (MdiPage.bytesOf 65 s.eeprom (.bytes page)) =
      some ⟨nominalTable, nominalTable, true, 0, 0, .ok⟩ ∧
    judgeCal 1 (MdiPage.bytesOf 65 s.eeprom .fromDevice) = none ∧ txEnabled s = true ∧ s.link.queue.length < 16 :=
  ⟨{ base with
      start := { base.start with phase := .loading, load := .reads [] }
      mem := ⟨.present, [⟨.calRead 1, false⟩, ⟨.recallRead 0 0, false⟩], .reading 5010⟩ },
    ⟨.calRead 1, false⟩, ⟨.recallRead 0 0, false⟩, calPage 1 nominalTable nominalTable 0 0 .ok, by unfold Settled; decide +kernel⟩
theorem test_hyp_recallRead : ∃ (s : State) (page : Vector Byte 64), Settled s ∧ s.mem.port = .reading 5010 ∧
    s.mem.queue = [⟨.recallRead 63 5, false⟩] ∧ s.tune.seq ≠ .commit ∧ s.start.load = .none ∧ s.start.phase = .running ∧
    s.start.fault ≠ .silent ∧
    judgePatch 63 (MdiPage.bytesOf 63 s.eeprom (.bytes page)) = .valid (Vector.replicate 16 1023) ∧
    judgePatch 63 (MdiPage.bytesOf 63 s.eeprom .fromDevice) = .empty ∧
    judgePatch 63 (MdiPage.bytesOf 63 s.eeprom (.bytes (patchPage 62 (Vector.replicate 16 0)))) = .bad ∧
    s.link.queue.length < 16 :=
  ⟨serving (.reading 5010) (.recallRead 63 5), patchPage 63 (Vector.replicate 16 1023), by unfold Settled; decide +kernel⟩
/-- The last start-up read of a station in LOADING, with a silencing record or without. -/
def lastRead (f : FaultState) (silenced : Option (FaultCode × Byte)) : State :=
  { serving (.reading 5010) (.recallRead 63 0) with
    start := { base.start with phase := .loading, loadsDone := false, load := .reads [], fault := f, silencing := silenced } }
/-- R38, R195: it ends LOADING, with the Reports of a bad page and of the record. -/
theorem test_hyp_lastRead :
    (∀ f r, (f = .normal ∨ f = .muted) → (r = none ∨ r = some (.dupId, 1)) → Settled (lastRead f r) ∧
      (lastRead f r).mem.port = .reading 5010 ∧ (lastRead f r).start.phase = .loading ∧ (lastRead f r).tune.seq ≠ .commit ∧
      (lastRead f r).start.fault ≠ .silent ∧ (lastRead f r).link.queue.length < 15) ∧
    (∀ f r, PortLaw (lastRead f r)) ∧
    (after (.pageReadComplete ⟨.bytes (patchPage 62 (Vector.replicate 16 0)), .none⟩)
        (lastRead .normal (some (.dupId, 1)))).link.queue.map TxEntry.frame =
      [.report .memory 1 [63], .report .fault 2 [1]] :=
  ⟨fun f r hf hr => by
    rcases hf with hf | hf <;> rcases hr with hr | hr <;> subst hf <;> subst hr <;> unfold Settled <;> decide +kernel,
    fun _ _ i h => by
    have e : ∀ i : SlotIdx, (base.slots[i]).inFlight = none := by decide +kernel
    exact absurd (e i) h, by decide +kernel⟩
theorem test_hyp_writeCommand : (serving (.writing 5137) (.storeWrite 63 (Vector.replicate 16 0))).mem.port = .writing 5137 := rfl
/-- R166: a page write takes 137 µs from its first MCS fall to its last rise, with MCS high between its two commands; R158: the
page address of slot 63. -/
theorem test_write_wave :
    (memCommands (serving (.writing 5137) (.storeWrite 63 (Vector.replicate 16 0)))).map (fun c => (c.us, c.sent.take 3)) =
      [(2, [0xC6]), (134, [0xC2, 0x0F, 0xC0])] ∧
    ((memWave (serving (.writing 5137) (.storeWrite 63 (Vector.replicate 16 0)))).drop 8).length = 8 * (137 + 1) := by decide +kernel
/-- MDI with these bytes in the read part of a command and high before it: each bit lasts a clock cycle, and MDI is low outside. -/
def presenting (c : MemCommand) (bytes : List Byte) : List Bool :=
  List.replicate 8 false ++ (List.replicate (8 * c.sent.length) true ++ bytes.flatMap bitsMsb).flatMap (fun b => [b, b]) ++
    List.replicate 8 false
/-- R158, R159, R163, R167: the status byte of a probe and of a poll, and a page, from the levels on MDI; with MDI high throughout, as
without a device, they read 0xFF. One level too few ends nothing. -/
theorem test_mdi :
    let probe : State := { base with mem := ⟨.unknown, [], .probing 5004⟩ }
    let poll := serving (.polling 0 3) (.storeWrite 63 (Vector.replicate 16 0))
    let page := serving (.reading 5134) (.recallRead 63 0)
    let bytes := (patchPage 63 (Vector.replicate 16 700)).toList
    memOutcome .none (presenting .statusRead [0x8C]) probe = some (.probeComplete 0x8C) ∧
    memOutcome (.store 6 1) (presenting .statusRead [0x81]) poll = some (.writePoll ⟨0x81, .store 6 1⟩) ∧
    memOutcome .none (presenting (.pageRead 63) bytes) page =
      some (.pageReadComplete ⟨.bytes (patchPage 63 (Vector.replicate 16 700)), .none⟩) ∧
    memRead (List.replicate 1088 true) probe = [0xFF] ∧ memRead (List.replicate 1088 true) page = List.replicate 64 0xFF ∧
    memOutcome .none (List.replicate 1087 true) page = none := by decide +kernel
/-- A held CAL-WRITE at a full queue whose first request ends; and a Store that reaches the Memory Controller before it. -/
def fullMemory : State :=
  { base with
    mem := ⟨.present, List.replicate 4 ⟨.storeWrite 63 (Vector.replicate 16 0), false⟩, .polling 0 3⟩
    tune := { Tune.reset with seq := .commit, voice := some 1, held := some (.calWrite 1 nominalTable nominalTable 0 0 .ok) } }
theorem test_hyp_rival : Settled fullMemory ∧ canReceive fullMemory = true ∧ following fullMemory = true ∧
    fullMemory.start.load = .none ∧ fullMemory.tune.held = some (.calWrite 1 nominalTable nominalTable 0 0 .ok) ∧
    (∀ x ∈ fullMemory.mem.queue, x.req.isRecall = false) ∧ (63 : Byte).toNat = (63 : PatchSlot).val ∧
    (after (.writePoll ⟨0, .none⟩) fullMemory).tune.held.isNone ∧
    [Rival.store 6 63, .recall 6 63 0].all (fun r => (after (.writePoll ⟨0, r⟩) fullMemory).tune.held.isSome) = true := by
  unfold Settled; decide +kernel
theorem test_hyp_poll (n : Nat) (h : n = 118 ∨ n = 119) : ∃ (s : State) (r : MemReq), Settled s ∧ EepromLaw s ∧
    s.mem.port = .polling 0 n ∧ s.mem.queue = [⟨r, false⟩] ∧ r.image.isSome = true ∧ s.tune.seq ≠ .commit ∧ s.start.load = .none ∧
    txEnabled s = true ∧ s.link.queue.length < 16 :=
  ⟨serving (.polling 0 n) (.storeWrite 63 (Vector.replicate 16 0)), .storeWrite 63 (Vector.replicate 16 0), by
    rcases h with h | h <;> subst h <;> unfold Settled EepromLaw <;> decide +kernel⟩

/-! ### Hypotheses: the panel -/

/-- A running scanner sampling knob i, whose record is k. -/
def sampling (i : Fin 32) (k : Knob) : State :=
  updKnob i (fun _ => k) { base with panel := { base.panel with running := true, sample := some i, sampleEnd := 5030 } }

/-- R125: the ADC is idle for 20 µs of a sample and then converts KIN0 for knobs 0 to 15 and KIN1 for 16 to 31; after the sample of
knob 15 that of knob 16 has KSEL0–3 at 0, and its result is the value of knob 16. -/
theorem test_adc :
    let s (i : Fin 32) (t : Nat) : State := { sampling i ⟨[], none, none⟩ with now := t }
    let knobs (i : Fin 32) : BitVec 12 := BitVec.ofNat 12 (100 * i.val)
    [5000, 5019, 5020, 5029, 5030].map (fun t => adcConverts (s 15 t)) = [none, none, some .kin0, some .kin0, none] ∧
    [0, 15, 16, 31].map knobInput = [.kin0, .kin0, .kin1, .kin1] ∧
    (let t := after (.knobSampleEnd 7) (s 15 5030)
     t.pins.ksel = 0 ∧ adcConverts { t with now := 5050 } = some .kin1 ∧
     sampleOutcome (kinOf knobs t) t = some (.knobSampleEnd 1600)) ∧
    adcConverts base = none ∧ sampleOutcome (kinOf knobs base) base = none := by decide +kernel
theorem test_hyp_round : ∃ s : State, s.panel.running = true ∧ s.panel.sample = none :=
  ⟨{ base with panel := { base.panel with running := true } }, rfl, rfl⟩
/-- The fourth sample; a later one beyond the dead band, and at an end of the range. -/
theorem test_hyp_sample : Settled (sampling 31 ⟨[0, 0, 0], none, none⟩) ∧ Settled (sampling 0 ⟨[0, 0, 0, 0], some 3, none⟩) ∧
    (sampling 31 ⟨[0, 0, 0], none, none⟩).panel.sample = some 31 ∧
    ((after (.knobSampleEnd 0) (sampling 31 ⟨[0, 0, 0], none, none⟩)).panel.knobs[(31 : Fin 32)]).reading = some 0 ∧
    ((after (.knobSampleEnd 0) (sampling 0 ⟨[0, 0, 0, 0], some 3, none⟩)).panel.knobs[(0 : Fin 32)]).reading = some 0 := by
  unfold Settled; decide +kernel
/-- Station 0 sampling the knob of parameter 5 with reading 2000, position 500: the mode, the state and the value. -/
def pickingUp (mode : PickupMode) (k : Pickup) (ring : BitVec 12) (value : Nat) : State :=
  updParam 5 (fun _ => ⟨value, none⟩)
    { sampling 5 ⟨[ring, ring, ring, ring], some 2000, some k⟩ with
      start := { base.start with stationId := some 0, pickup := mode }
      panel := { (sampling 5 ⟨[ring, ring, ring, ring], some 2000, some k⟩).panel with
        knobs := updAt base.panel.knobs (knobOfParam 5) fun _ => ⟨[ring, ring, ring, ring], some 2000, some k⟩
        sample := some (knobOfParam 5) } }
/-- What a sample queues and the pickup state it leaves. -/
def pickedUp (x : BitVec 12) (s : State) : List Frame × Option Pickup :=
  ((after (.knobSampleEnd x) s).link.queue.map TxEntry.frame,
    ((after (.knobSampleEnd x) s).panel.knobs[knobOfParam 5]).pickup)
/-- R130 to R132: the position moves from 500 to 600 (or to 400), with the value before it, on it or beyond it. -/
theorem test_hyp_pickup :
    (∀ mode k, Settled (pickingUp mode k 2400 600) ∧ QueueLaw (pickingUp mode k 2400 600) ∧
      txEnabled (pickingUp mode k 2400 600) = true ∧ (pickingUp mode k 2400 600).panel.sample = some 5 ∧
      32 * (stationId (pickingUp mode k 2400 600)).val + 5 = (5 : Fin 16).val) ∧
    [pickedUp 2400 (pickingUp .jump .caught 2400 900), pickedUp 2400 (pickingUp .catch .waitUp 2400 600),
      pickedUp 2400 (pickingUp .catch .waitUp 2400 601), pickedUp 1600 (pickingUp .catch .waitDown 1600 400),
      pickedUp 1600 (pickingUp .catch .waitDown 1600 399), pickedUp 2400 (pickingUp .relative .waitUp 2400 700),
      pickedUp 1600 (pickingUp .relative .waitDown 1600 300)] =
    [([.knob 5 600], some .caught), ([.knob 5 600], some .caught), ([], some .waitUp), ([.knob 5 400], some .caught),
      ([], some .waitDown), ([.knob 5 761], some .waitUp), ([.knob 5 240], some .waitDown)] :=
  ⟨fun mode k => ⟨by cases mode <;> cases k <;> unfold Settled <;> decide +kernel, queueLaw_of (by
    cases mode <;> cases k <;> decide +kernel), by cases mode <;> cases k <;> decide +kernel⟩, by decide +kernel⟩
/-- R129: the base value of a queued Knob frame, and of one withdrawn. -/
theorem test_hyp_base :
    let s := queueing (.knob 5 512) (pickingUp .catch .waitUp 2400 600)
    let w := { s with link := { s.link with queue := s.link.queue.map fun e => { e with withdrawn := true } } }
    QueueLaw s ∧ QueueLaw w ∧ baseValue 5 s = 512 ∧ baseValue 5 w = 600 ∧ baseValue 6 s = (s.live[(6 : Fin 16)]).value :=
  ⟨queueLaw_of (by decide +kernel), queueLaw_of (by decide +kernel), by decide +kernel⟩
/-- R134: a Param of another station, with a Knob frame queued. R134, R149: a recall, for a parameter that changes and one that does
not. -/
theorem test_hyp_uncatch :
    (let s := queueing (.knob 5 512) (pickingUp .catch .caught 2400 600)
    Settled s ∧ QueueLaw s ∧ canReceive s = true ∧ following s = true ∧ s.panel.running = true ∧ stationId s = 0 ∧
      (after (.param 6 5 700) s).link.queue = [] ∧
      ((after (.param 6 5 700) s).panel.knobs[knobOfParam 5]).pickup = some .waitUp) ∧
    (let s := { pickingUp .catch .caught 2400 600 with mem := ⟨.present, [⟨.recallRead 63 5, false⟩], .reading 5010⟩ }
    Settled s ∧ s.start.load = .none ∧ s.start.phase = .running ∧ s.panel.running = true ∧ stationId s = 0 ∧
      judgePatch 63 (MdiPage.bytesOf 63 s.eeprom (.bytes (patchPage 63 (Vector.replicate 16 1023)))) =
        .valid (Vector.replicate 16 1023) ∧ (s.live[(7 : Fin 16)]).value = 1023 ∧ (s.live[(5 : Fin 16)]).value = 600) :=
  ⟨⟨by unfold Settled; decide +kernel, queueLaw_of (by decide +kernel), by decide +kernel⟩, by unfold Settled; decide +kernel⟩
/-- R135: a morph step past the position of a waiting knob, and past that of a caught one. -/
theorem test_hyp_morphFollow :
    let s (k : Pickup) := updParam 5 (fun _ => ⟨600, some ⟨600, 0, 4, 2, 0⟩⟩) (pickingUp .catch k 2400 600)
    (∀ k, Settled (s k) ∧ ((s k).live[(5 : Fin 16)]).morph = some ⟨600, 0, 4, 2, 0⟩ ∧
      (∀ p : Fin 16, p ≠ 5 → ((s k).live[p]).morph = none) ∧ (s k).panel.running = true ∧ stationId (s k) = 0) ∧
    ((after .morphStep (s .waitUp)).panel.knobs[knobOfParam 5]).pickup = some .waitDown ∧
    ((after .morphStep (s .caught)).panel.knobs[knobOfParam 5]).pickup = some .caught :=
  ⟨fun k => by cases k <;> unfold Settled <;> decide +kernel, by decide +kernel⟩

/-- A running scanner at a row, with two passes of a closed switch 9 behind it. -/
def scanning (r : Fin 8) (raw : Vector (BitVec 8) 8) : State :=
  { base with panel := { base.panel with
      running := true, row := r, raw := raw, switches := updAt base.panel.switches 9 fun _ => ⟨false, 2⟩ } }

theorem test_hyp_row : Settled (scanning 0 (Vector.replicate 8 0)) ∧ (scanning 6 (Vector.replicate 8 0)).panel.running = true := by
  unfold Settled; decide +kernel
/-- 07: a third pass accepts the switch; a rectangle of closed switches with it as a corner holds it. -/
theorem test_row_accepts :
    ((after (.matrixRowEnd 0xFF) (scanning 7 #v[0, 2, 0, 0, 0, 0, 0, 0])).panel.switches[(9 : Fin 64)]) = ⟨true, 0⟩ ∧
    ((after (.matrixRowEnd 0xFF) (scanning 7 #v[3, 3, 0, 0, 0, 0, 0, 0])).panel.switches[(9 : Fin 64)]) = ⟨false, 3⟩ := by
  decide +kernel
/-- R141: a pass that accepts switches 8 and 9 queues a frame for each. -/
theorem test_row_accepts_two :
    (after (.matrixRowEnd 0xFF) { scanning 7 #v[0, 3, 0, 0, 0, 0, 0, 0] with panel := { (scanning 7 #v[0, 3, 0, 0, 0, 0, 0, 0]).panel with
      switches := updAt (scanning 7 #v[0, 3, 0, 0, 0, 0, 0, 0]).panel.switches 8 fun _ => ⟨false, 2⟩ } }).link.queue.map TxEntry.frame =
    [.switch 8 true, .switch 9 true] := by decide +kernel
/-- R21: the accepted switch 9 at a full queue whose last entry has a higher field, and at one whose last entry has a lower one. -/
theorem test_hyp_fullQueue :
    let s (div : Nat) (add : Nat) := queueAll ((List.range 16).map fun n => .switch (BitVec.ofNat 6 (n / div + add)) true)
      (scanning 7 #v[0, 2, 0, 0, 0, 0, 0, 0])
    (∀ d a, (d = 1 ∧ a = 10) ∨ (d = 2 ∧ a = 0) → Settled (s d a) ∧ QueueLaw (s d a) ∧ (s d a).panel.running = true ∧
      txEnabled (s d a) = true ∧ (s d a).link.queue.length = 16 ∧
      (after (.matrixRowEnd 0xFF) (s d a)).link.counters.queueDrops = 1) ∧
    [s 1 10, s 2 0].map (fun x => ((worstEntry x.link.queue).map TxEntry.field,
        ((after (.matrixRowEnd 0xFF) x).link.queue.head?.map TxEntry.frame))) =
      [(some (12288 + 25 * 8 + 2), some (.switch 9 true)), (some (12288 + 7 * 8 + 2), some (.switch 0 true))] :=
  ⟨fun d a h => ⟨by rcases h with ⟨h, g⟩ | ⟨h, g⟩ <;> subst h <;> subst g <;> unfold Settled <;> decide +kernel, queueLaw_of (by
    rcases h with ⟨h, g⟩ | ⟨h, g⟩ <;> subst h <;> subst g <;> decide +kernel), by
    rcases h with ⟨h, g⟩ | ⟨h, g⟩ <;> subst h <;> subst g <;> decide +kernel⟩, by decide +kernel⟩

/-! ### Hypotheses: the tune measurement -/

theorem test_hyp_settle : ∃ s : State, s.tune.settleTimer = some 9000 ∧ s.tune.work.isSome = true :=
  ⟨{ measuring 1 1 .idle with tune := { (measuring 1 1 .idle).tune with settleTimer := some 9000 } }, rfl, rfl⟩
theorem test_hyp_firstEdge : (measuring 1 1 (.armed 1 105000)).tune.counter = .armed 1 105000 := rfl
theorem test_hyp_refresh : ∃ s : State, Settled s ∧ s.tune.refreshTimer = some 325000 ∧ s.tune.voice = some 1 ∧
    (s.voices[(1 : Fin 6)]).state = .tuning ∧ s.tune.refreshMark = false ∧ txEnabled s = true ∧ s.link.queue.length < 16 :=
  ⟨{ measuring 1 1 .idle with tune := { (measuring 1 1 .idle).tune with refreshTimer := some 325000 } }, by
    unfold Settled; decide +kernel⟩
/-- Counts within the tolerance and beyond it, at the first and the last breakpoint, and at pass 4. -/
theorem test_hyp_count : Settled (measuring 9 4 (.counting 256 5000)) ∧ Settled (measuring 1 3 (.counting 1 5000)) ∧
    (tuneError 489249).natAbs ≤ 2 ∧ 3 ≤ (tuneError 244624).natAbs ∧ 3 ≤ (tuneError 978498).natAbs ∧
    (measuring 9 4 (.counting 256 5000)).tune.counter = .counting 256 5000 := by unfold Settled; decide +kernel
/-- The last breakpoint of oscillator 2: tables in order, with a drift of 0 and of 1441, and one out of order at breakpoint 6. -/
def finishing (tab2 : CalTable) : State :=
  { measuring 9 1 (.counting 256 5000) with tune := { (measuring 9 1 (.counting 256 5000)).tune with
      work := some ⟨nominalTable, tab2, .osc2, 9, 1⟩ } }
theorem completes_of {w t : CalTable} (h : ∀ j : Fin 10, 1 ≤ j.val → tabAt t j.val = tabAt w j.val)
    (h0 : ((tabAt t 0).toNat : Int) = max 0 (min 65535 (2 * (tabAt w 1).toNat - (tabAt w 2).toNat)))
    (h10 : ((tabAt t 10).toNat : Int) = max 0 (min 65535 (2 * (tabAt w 9).toNat - (tabAt w 8).toNat))) : Completes w t :=
  ⟨fun j h1 h9 => h ⟨j, by omega⟩ h1, h0, h10⟩
theorem test_hyp_lastBreakpoint :
    let far : CalTable := #v[2048, 7808, 13568, 19328, 25088, 32289, 36608, 42368, 48128, 53888, 59648]
    let wrong : CalTable := #v[2048, 7808, 13568, 19328, 25088, 40000, 36608, 42368, 48128, 53888, 59648]
    (∀ t : CalTable, t = nominalTable ∨ t = far ∨ t = wrong → Settled (finishing t) ∧ Completes t t ∧
      (finishing t).tune.seq = .measure ∧ ((finishing t).voices[(1 : Fin 6)]).state = .tuning ∧
      (finishing t).start.fault ≠ .silent ∧ (finishing t).link.queue.length < 14) ∧
    [nominalTable, far, wrong].map (fun t => (after (.countEnd 489249) (finishing t)).tune.result) =
      [some (.ok, 0), some (.okDrift, 0), some (.nonMonotonic, 0x26)] :=
  ⟨fun t h => by
    rcases h with h | h | h <;> subst h <;>
      exact ⟨by unfold Settled; decide +kernel, completes_of (by decide +kernel) (by decide +kernel) (by decide +kernel), by
        decide +kernel⟩, by decide +kernel⟩
theorem test_hyp_failed : Settled (measuring 9 4 (.armed 256 105000)) ∧
    (measuring 9 4 (.armed 256 105000)).tune.seq = .measure ∧ (measuring 9 4 (.armed 256 105000)).start.fault ≠ .silent ∧
    (measuring 9 4 (.armed 256 105000)).link.queue.length < 14 ∧
    ((measuring 9 4 (.armed 256 105000)).voices[(1 : Fin 6)]).state = .tuning := by unfold Settled; decide +kernel
theorem test_hyp_tuneError : tuneError 244624 = -3072 ∧ tuneError 978498 = 3072 := by decide +kernel

/-! ### Hypotheses: frames, pages and laws -/

theorem test_hyp_report : (List.replicate 12 (0xFF : Byte)).length = ReportType.calibA.dataLength := by decide
/-- A frame of the greatest length, all its payload recessive. -/
theorem test_hyp_line : ∃ f : RawFrame, f.payload.length = 14 ∧ receiveLine f.lineBits = some f :=
  ⟨⟨7, 0, 2, 3, List.replicate 14 0xFF, 0⟩, by decide +kernel⟩
theorem test_hyp_pages : (∀ p : Fin 16, (Vector.replicate 16 1023)[p] ≤ 1023) ∧ increasing nominalTable = true ∧
    TuneOutcome.nonMonotonic ≠ .aborted := by decide +kernel
/-- The laws hold in a station that plays a note with its gate high, and a step answers a next state. -/
theorem test_hyp_gateLaw : ∃ s t : State, GateLaw s ∧ (s.gates[(1 : Fin 6)]) = true ∧ step s = .next t :=
  ⟨(setGate 1 true (playingNote .held)).withPending [.noteOff 6 60], _, by unfold GateLaw; decide +kernel, by decide +kernel, rfl⟩
theorem test_hyp_queueLaw : ∃ s t : State, TransmitLaw s ∧ QueueLaw s ∧ s.link.notices = [] ∧ step s = .next t :=
  ⟨(sending (.switch 3 true) base).withPending [.ownFrameTaken], _, by unfold TransmitLaw; decide +kernel,
    queueLaw_of (by decide +kernel), rfl, rfl⟩
theorem test_hyp_claimLaw : ∃ s t : State, ClaimLaw s ∧ s.claims ≠ [] ∧ step s = .next t :=
  ⟨claiming.withPending [.noteOff 6 60], _, by unfold ClaimLaw; decide +kernel, by decide +kernel, rfl⟩
theorem test_hyp_liveLaw : ∃ s t : State, LiveLaw s ∧ step s = .next t :=
  ⟨base.withPending [.param 6 15 0xFFFF], _, fun p => by
    have h : ∀ p : Fin 16, (base.live[p]).value ≤ 1023 ∧ (base.live[p]).morph = none := by decide +kernel
    exact ⟨(h p).1, fun m hm => absurd ((h p).2.symm.trans hm) (by simp)⟩, rfl⟩
theorem test_hyp_portsLaw : ∃ s t : State, MemQueueLaw s ∧ EepromLaw s ∧ PortLaw s ∧ CalibLaw s ∧ step s = .next t :=
  ⟨(serving (.polling 0 3) (.storeWrite 63 (Vector.replicate 16 0))).withPending [.writePoll ⟨0, .none⟩], _, by
    unfold MemQueueLaw; decide +kernel, by unfold EepromLaw; decide +kernel, fun i h => by
    have e : ∀ i : SlotIdx, (base.slots[i]).inFlight = none := by decide +kernel
    exact absurd (e i) h, by unfold CalibLaw; decide +kernel, rfl⟩

end Sys2Proof.Tests
end

section
/-!
Claim rounds (04): how a Note-On opens a claim (R64 to R68), which voice is offered (R65, R67, R68), and how a claim times out (R72).
-/
namespace Sys2Proof.ClaimRounds
open Sys2Proof Sys2Proof.Machine Sys2Proof.Safety

/-! ### Ends of events -/

/-- Being settled is read off the loss notices, the tune sequencer, the CV port and the slots. -/
theorem settled_congr {s t : State} (h : Settled s) (hn : t.link.notices = s.link.notices) (ht : t.tune = s.tune)
    (hp : t.sched = s.sched) (hs : t.slots = s.slots) : Settled t := by
  unfold Settled selecting at *
  rwa [hn, ht, hp, hs]

/-- A station that plays dispatches the frames it takes (R17, R44). -/
theorem dispatching_of_playing {s : State} (h : playing s = true) : dispatching s = true := by
  obtain ⟨hp, hf⟩ : s.start.phase = .running ∧ s.start.fault = .normal := by simpa [playing] using h
  rw [dispatching, hp, hf]
  rfl

/-- A station that plays has its transmitter enabled (R7, R68). -/
theorem txEnabled_of_playing {s : State} (h : playing s = true) : txEnabled s = true :=
  dispatching_of_playing h

/-- The end of an event adds nothing to a taken frame whose effect leaves the station settled. -/
theorem takeFrame_settled {effect : State → State} {s : State} (hc : canReceive s = true) (hd : dispatching s = true)
    (h : Settled (effect (followed s))) : takeFrame effect s = effect (followed s) := by
  have hear_eq : hear effect s = effect (followed s) := if_pos hd
  rw [takeFrame, if_pos hc, hear_eq, finish_settled h]

/-! ### Opening a claim (R64 to R68) -/

/-- Voice u is the one to offer for identity i, at rank r: the holder, and without a holder the best candidate (R66, R68). -/
def Offers (s : State) (i : Ident) (u : VoiceIdx) (r : Nat) : Prop :=
  (holder i s = some u ∧ s.voices[u].nominated = false ∧ r = 0) ∨
    (holder i s = none ∧ bestCandidate i.note s = some (u, r))

/-- With no earlier condition of R64 met, a claim is opened for the voice on offer. -/
theorem decideClaim_opens {s : State} {i : Ident} {vel : Velocity} {u : VoiceIdx} {r : Nat} (hv : s.start.voiceCount.val ≠ 0)
    (hp : playing s = true) (hi : ∀ c ∈ s.claims, c.ident ≠ i) (hl : s.claims.length < 4) (ho : Offers s i u r) :
    decideClaim i vel s = openClaim u r i vel s := by
  have order1 : s.start.voiceCount ≠ 0 := fun h => hv (congrArg Fin.val h)
  have order2 : ¬ (!playing s) = true := by simp [hp]
  have order3 : ¬ s.claims.any (isFor i) = true := by simpa [isFor] using hi
  have order4 : ¬ Config.claimCapacity ≤ s.claims.length := Nat.not_le.mpr hl
  rw [decideClaim, if_neg order1, if_neg order2, if_neg order3, if_neg order4]
  rcases ho with ⟨hh, hn, rfl⟩ | ⟨hh, hb⟩
  · rw [hh]
    exact if_neg (Bool.eq_false_iff.mp hn)
  · simp only [hh, hb]

/-- What opening a claim changes while the transmit queue has room (R68). -/
theorem openClaim_room {s : State} {i : Ident} {vel : Velocity} {u : VoiceIdx} {r : Nat} (ht : txEnabled s = true)
    (hq : s.link.queue.length < 16) :
    openClaim u r i vel s = { s with
      claims := s.claims ++ [⟨i, vel, u, r, s.now / 1000, s.now + 5000, false⟩]
      voices := updAt s.voices u fun v => { v with nominated := true }
      link := enterFrame (.claim i.source i.note u) (2048 + r * 8 + (stationId s).val) s.link } := by
  have field : arbField (Frame.claim i.source i.note u).cls r (stationId s).val = 2048 + r * 8 + (stationId s).val := by
    simp [arbField, Frame.cls]
  unfold openClaim
  rw [handRanked_room, ← field]
  case ht => exact ht
  case hl => exact hq
  case hk => simp
  rfl

/-- Settles O12: the orders 1 to 6 of R64 are excluded, and the opened claim leaves the station settled. -/
theorem noteOnOpensClaim : Obligations.NoteOnOpensClaim := by
  intro s src n vel u r hs hc hp hv hvel hi hl hq ho
  have effect_eq : decideClaim ⟨src, n⟩ vel (followed s) = openClaim u r ⟨src, n⟩ vel (followed s) :=
    decideClaim_opens (s := followed s) hv hp hi hl ho
  rw [openClaim_room (s := followed s) (txEnabled_of_playing hp) hq] at effect_eq
  have settled : Settled (decideClaim ⟨src, n⟩ vel (followed s)) := by
    rw [effect_eq]
    exact settled_congr hs rfl rfl rfl rfl
  simp only [exec, execNoteOn, if_neg hvel]
  rw [takeFrame_settled hc (dispatching_of_playing hp) settled, effect_eq]
  rfl

/-! ### The best candidate (R65, R68) -/

/-- What the search of R68 keeps after voice u, having kept `best` before it. -/
def keepBetter (n : Note) (s : State) (best : Option (VoiceIdx × Nat)) (u : VoiceIdx) : Option (VoiceIdx × Nat) :=
  if isCandidate s u then
    match best with
    | some (_, b) => if rankOfVoice s.ms n s.voices[u] < b then some (u, rankOfVoice s.ms n s.voices[u]) else best
    | none => some (u, rankOfVoice s.ms n s.voices[u])
  else best

/-- The model's search is this one, from voice 0 on. -/
theorem bestCandidate_eq_foldl (n : Note) (s : State) :
    bestCandidate n s = (List.finRange 6).foldl (keepBetter n s) none := rfl

/-- Voice u, at rank r, is the candidate of lowest rank among the voices of l, and of lowest index among those. -/
def LowestIn (n : Note) (s : State) (l : List VoiceIdx) (u : VoiceIdx) (r : Nat) : Prop :=
  isCandidate s u = true ∧ r = rankOfVoice s.ms n s.voices[u] ∧ ∀ v ∈ l, isCandidate s v = true →
    r < rankOfVoice s.ms n s.voices[v] ∨ (r = rankOfVoice s.ms n s.voices[v] ∧ u ≤ v)

/-- What a search through the voices of l ought to have kept. -/
def KeepsLowest (n : Note) (s : State) (l : List VoiceIdx) : Option (VoiceIdx × Nat) → Prop
  | none => ∀ v ∈ l, isCandidate s v = false
  | some (u, r) => u ∈ l ∧ LowestIn n s l u r

/-- One further voice, of a higher index than those searched, keeps the search right: it replaces only a higher rank. -/
theorem keepBetter_keepsLowest {n : Note} {s : State} {l : List VoiceIdx} {best : Option (VoiceIdx × Nat)} {x : VoiceIdx}
    (hx : ∀ v ∈ l, v < x) (h : KeepsLowest n s l best) : KeepsLowest n s (l ++ [x]) (keepBetter n s best x) := by
  by_cases hc : isCandidate s x = true
  · cases best with
    | none =>
      have none_before : ∀ v ∈ l, isCandidate s v = false := h
      simp only [keepBetter, if_pos hc]
      refine ⟨by simp, hc, rfl, fun v hv hcv => ?_⟩
      rcases List.mem_append.mp hv with hv | hv
      · simp [none_before v hv] at hcv
      · rw [List.mem_singleton.mp hv]
        exact .inr ⟨rfl, Fin.le_refl x⟩
    | some best =>
      obtain ⟨u, r⟩ := best
      obtain ⟨hu, hcu, hr, hlow⟩ := h
      simp only [keepBetter, if_pos hc]
      split
      case isTrue hlt =>
        refine ⟨by simp, hc, rfl, fun v hv hcv => ?_⟩
        rcases List.mem_append.mp hv with hv | hv
        · have := hlow v hv hcv
          omega
        · rw [List.mem_singleton.mp hv]
          exact .inr ⟨rfl, Fin.le_refl x⟩
      case isFalse hge =>
        refine ⟨List.mem_append_left _ hu, hcu, hr, fun v hv hcv => ?_⟩
        rcases List.mem_append.mp hv with hv | hv
        · exact hlow v hv hcv
        · rw [List.mem_singleton.mp hv]
          exact (Nat.lt_or_eq_of_le (Nat.not_lt.mp hge)).imp_right fun heq => ⟨heq, Nat.le_of_lt (hx u hu)⟩
  · have skipped : keepBetter n s best x = best := if_neg hc
    rw [skipped]
    cases best with
    | none =>
      have none_before : ∀ v ∈ l, isCandidate s v = false := h
      simpa [KeepsLowest, or_imp, forall_and, hc] using none_before
    | some best =>
      obtain ⟨hu, hcu, hr, hlow⟩ := h
      refine ⟨List.mem_append_left _ hu, hcu, hr, fun v hv hcv => ?_⟩
      rcases List.mem_append.mp hv with hv | hv
      · exact hlow v hv hcv
      · exact absurd (List.mem_singleton.mp hv ▸ hcv) hc

/-- A search that has kept the lowest of `searched`, and goes on in ascending order of index through `rest`, keeps the lowest. -/
theorem foldl_keepBetter {n : Note} {s : State} {searched rest : List VoiceIdx} {best : Option (VoiceIdx × Nat)}
    (hl : (searched ++ rest).Pairwise (· < ·)) (h : KeepsLowest n s searched best) :
    KeepsLowest n s (searched ++ rest) (rest.foldl (keepBetter n s) best) := by
  induction rest generalizing searched best with
  | nil => rwa [List.append_nil]
  | cons x rest ih =>
    obtain ⟨-, -, hx⟩ := List.pairwise_append.mp hl
    rw [List.append_cons] at hl ⊢
    exact ih hl (keepBetter_keepsLowest (fun v hv => hx v hv x List.mem_cons_self) h)

/-- The best candidate is the lowest of all the voices, and there is none only without a candidate. -/
theorem bestCandidate_keepsLowest (n : Note) (s : State) : KeepsLowest n s (List.finRange 6) (bestCandidate n s) := by
  rw [bestCandidate_eq_foldl]
  exact foldl_keepBetter (searched := []) (by decide) fun v hv => absurd hv List.not_mem_nil

/-- There is one lowest candidate only. -/
theorem LowestIn.unique {n : Note} {s : State} {l : List VoiceIdx} {u v : VoiceIdx} {r q : Nat} (hu : u ∈ l) (hv : v ∈ l)
    (hur : LowestIn n s l u r) (hvq : LowestIn n s l v q) : u = v ∧ r = q := by
  obtain ⟨hcu, hr, hlowu⟩ := hur
  obtain ⟨hcv, hq, hlowv⟩ := hvq
  have huv := hq ▸ hlowu v hv hcv
  have hvu := hr ▸ hlowv u hu hcu
  have ranks : r = q := by omega
  obtain ⟨-, hle⟩ := huv.resolve_left (by omega)
  obtain ⟨-, hge⟩ := hvu.resolve_left (by omega)
  exact ⟨Fin.le_antisymm hle hge, ranks⟩

/-- The voice offered is the lowest candidate of the station (R68). -/
theorem bestCandidate_eq_some_iff {n : Note} {s : State} {u : VoiceIdx} {r : Nat} :
    bestCandidate n s = some (u, r) ↔ LowestIn n s (List.finRange 6) u r := by
  have kept := bestCandidate_keepsLowest n s
  constructor
  · intro h
    rw [h] at kept
    exact kept.2
  · intro low
    cases hb : bestCandidate n s with
    | none =>
      rw [hb] at kept
      exact absurd low.1 (Bool.eq_false_iff.mp (kept u (List.mem_finRange u)))
    | some best =>
      rw [hb] at kept
      obtain ⟨hv, hlow⟩ := kept
      obtain ⟨rfl, rfl⟩ := low.unique (List.mem_finRange u) hv hlow
      rfl

/-! ### The rank classes (R67) -/

theorem rankOfVoice_idle {ms : Nat} {n : Note} {v : Voice} (h : v.state = .idle) :
    rankOfVoice ms n v = if v.lastNote = some n then 0x10 else 0x20 - min (ageOf ms v.idleSince / 32) 15 := by
  rw [rankOfVoice, h]

theorem rankOfVoice_releasing {ms : Nat} {n : Note} {v : Voice} (h : v.state = .releasing) :
    rankOfVoice ms n v = 0x40 - min (ageOf ms v.releaseSince / 32) 31 := by
  rw [rankOfVoice, h]

theorem rankOfVoice_sustained {ms : Nat} {n : Note} {v : Voice} (h : v.state = .sustained) :
    rankOfVoice ms n v = 0x80 - min (ageOf ms v.startTime / 32) 63 := by
  rw [rankOfVoice, h]

theorem rankOfVoice_sounding {ms : Nat} {n : Note} {v : Voice} (h : v.state = .held ∨ v.state = .gating) :
    rankOfVoice ms n v = 0xC0 - min (ageOf ms v.startTime / 16) 63 := by
  rcases h with h | h <;> rw [rankOfVoice, h]

/-- Settles O14: the search in index order keeps the lowest rank, and each class rank is its highest less a bounded age. -/
theorem bestCandidateIsLowest : Obligations.BestCandidateIsLowest := by
  refine ⟨fun s n u r => ?_, fun ms n v => ⟨fun h => ?_, fun h => ?_, fun h => ?_, fun h => ?_⟩⟩
  · simpa [LowestIn, State.ms] using bestCandidate_eq_some_iff (n := n) (s := s)
  · rw [rankOfVoice_idle h]
    by_cases hn : v.lastNote = some n
    · simp [hn]
    · rw [if_neg hn]
      exact ⟨by omega, by omega, fun _ => by omega, fun hl => absurd hl hn⟩
  · rw [rankOfVoice_releasing h]
    omega
  · rw [rankOfVoice_sustained h]
    omega
  · rw [rankOfVoice_sounding h]
    omega

/-! ### The timeout of a claim (R72) -/

/-- No two entries are for one identity (R63). -/
theorem eq_of_ident_eq {s : State} {c d : Claim} (h : ClaimLaw s) (hc : c ∈ s.claims) (hd : d ∈ s.claims)
    (hi : d.ident = c.ident) : d = c := by
  obtain ⟨-, apart, -⟩ := h
  rw [List.pairwise_iff_getElem] at apart
  obtain ⟨j, hj, rfl⟩ := List.getElem_of_mem hc
  obtain ⟨k, hk, rfl⟩ := List.getElem_of_mem hd
  rcases Nat.lt_trichotomy k j with hlt | rfl | hgt
  · exact absurd hi (apart k j hk hj hlt).1
  · rfl
  · exact absurd hi.symm (apart j k hj hk hgt).1

/-- The entry for the identity of an entry is that entry. -/
theorem claimOf_ident {s : State} {c : Claim} (h : ClaimLaw s) (hc : c ∈ s.claims) : claimOf c.ident s = some c := by
  cases hf : claimOf c.ident s with
  | none => simpa using List.find?_eq_none.mp hf c hc
  | some d =>
    have hd : d ∈ s.claims := List.mem_of_find?_eq_some hf
    have hi : d.ident = c.ident := by simpa using List.find?_some hf
    rw [eq_of_ident_eq h hc hd hi]

/-- Under the law of R63 the entries for an entry's identity name its voice only. -/
theorem any_isFor_voice {s : State} {c : Claim} (h : ClaimLaw s) (hc : c ∈ s.claims) (u : VoiceIdx) :
    (s.claims.any fun d => isFor c.ident d && d.voice == u) = true ↔ u = c.voice := by
  simp only [List.any_eq_true, Bool.and_eq_true, isFor, beq_iff_eq]
  constructor
  · rintro ⟨d, hd, hi, rfl⟩
    rw [eq_of_ident_eq h hc hd hi]
  · rintro rfl
    exact ⟨c, hc, rfl, rfl⟩

/-- Dropping one entry clears the nominated flag of its voice, and of no other (R63). -/
theorem dropClaims_voices {s : State} {c : Claim} (h : ClaimLaw s) (hc : c ∈ s.claims) :
    (dropClaims (isFor c.ident) s).voices = updAt s.voices c.voice fun v => { v with nominated := false } := by
  apply Vector.ext
  intro k hk
  have flag := any_isFor_voice h hc ⟨k, hk⟩
  have upd := updAt_getElem s.voices c.voice ⟨k, hk⟩ fun v => { v with nominated := false }
  simp only [Fin.getElem_fin] at upd
  rw [upd]
  by_cases hu : (⟨k, hk⟩ : VoiceIdx) = c.voice
  · simp only [dropClaims, Vector.getElem_ofFn, if_pos (flag.mpr hu), Fin.getElem_fin, ← hu, if_true]
  · simp only [dropClaims, Vector.getElem_ofFn, if_neg (mt flag.mp hu), if_neg hu, Fin.getElem_fin]

/-- The Claim frames of the entries for an entry's identity are the Claims for that identity. -/
theorem any_isClaimFor {s : State} {c : Claim} (hc : c ∈ s.claims) :
    (fun f => s.claims.any fun d => isFor c.ident d && isClaimFor d.ident f) = isClaimFor c.ident := by
  funext f
  rw [Bool.eq_iff_iff]
  simp only [List.any_eq_true, Bool.and_eq_true, isFor, beq_iff_eq]
  constructor
  · rintro ⟨d, -, hi, hf⟩
    rwa [← hi]
  · exact fun hf => ⟨c, hc, rfl, hf⟩

/-- The withdrawal of frames that are off the line only removes them (R22). -/
theorem withdraw_queue_offLine {s : State} {sel : Frame → Bool}
    (h : ∀ e ∈ s.link.queue, e.onLine = true → sel e.frame = false) :
    (withdraw sel s).link.queue = s.link.queue.filter fun e => !sel e.frame := by
  have kept : (s.link.queue.filter fun e => e.onLine || !sel e.frame) = s.link.queue.filter fun e => !sel e.frame := by
    refine List.filter_congr fun e he => ?_
    cases hl : e.onLine with
    | false => rfl
    | true => simp [h e he hl]
  have unmarked : ∀ e ∈ s.link.queue.filter (fun e => !sel e.frame),
      (if sel e.frame then { e with withdrawn := true, followOn := none } else e) = e := by
    intro e he
    have : sel e.frame = false := by simpa using (List.mem_filter.mp he).2
    simp [this]
  rw [withdraw, kept]
  exact (List.map_congr_left unmarked).trans (List.map_id' _)

/-- A withdrawn frame that is still in the queue bears the withdrawal mark (R22). -/
theorem withdraw_marks {s : State} {sel : Frame → Bool} {e : TxEntry} (he : e ∈ (withdraw sel s).link.queue)
    (hs : sel e.frame = true) : e.withdrawn = true := by
  obtain ⟨d, -, rfl⟩ := List.mem_map.mp he
  by_cases hd : sel d.frame = true
  · simp only [if_pos hd]
  · exact absurd (by simpa only [if_neg hd] using hs) hd

/-- Off the line, the expiry gives the claim up (R72). -/
theorem claimExpires_offLine {s : State} {i : Ident} (h : claimOnLine i s = false) : claimExpires i s = giveUpClaim i s := by
  rw [claimExpires, h]
  rfl

/-- On the line, the expiry asks for the frame's withdrawal and marks the entry (R72). -/
theorem claimExpires_onLine {s : State} {i : Ident} (h : claimOnLine i s = true) :
    claimExpires i s = { withdraw (isClaimFor i) s with
      claims := s.claims.map fun c => if isFor i c then { c with expired := true } else c } := by
  rw [claimExpires, h]
  rfl

/-- The expiry of a claim leaves a settled station settled. -/
theorem claimExpires_settled {s : State} {i : Ident} (h : Settled s) : Settled (claimExpires i s) := by
  unfold claimExpires
  split <;> exact settled_congr h rfl rfl rfl rfl

/-- CLAIM_TIMEOUT of an entry that has not expired: its expiry at the timer's end, and nothing after it (R72). -/
theorem exec_claimTimeout {s : State} {c : Claim} (hs : Settled s) (h : ClaimLaw s) (hc : c ∈ s.claims)
    (he : c.expired = false) :
    exec (.claimTimeout c.ident.source c.ident.note) s = .next (claimExpires c.ident (advanceTo c.timer s)) := by
  have found : claimOf ⟨c.ident.source, c.ident.note⟩ s = some c := claimOf_ident h hc
  have settled : Settled (claimExpires c.ident (advanceTo c.timer s)) :=
    claimExpires_settled (settled_congr hs rfl rfl rfl rfl)
  simp only [exec, execClaimTimeout, found, he]
  rw [finish_settled settled]
  rfl

/-- Settles O35: off the line the claim is given up, on the line it is marked, as `claimExpires` says. -/
theorem claimTimeoutEndsEntry : Obligations.ClaimTimeoutEndsEntry := by
  intro s c hs h hc he
  have run := exec_claimTimeout hs h hc he
  constructor
  · intro off
    rw [claimExpires_offLine (s := advanceTo c.timer s) off] at run
    have offLine : ∀ e ∈ s.link.queue, e.onLine = true → isClaimFor c.ident e.frame = false := by
      simpa [claimOnLine] using off
    refine ⟨_, run, rfl, rfl, ?_, ?_, rfl, rfl, rfl, rfl⟩
    · exact dropClaims_voices (s := withdraw _ (advanceTo c.timer s)) h hc
    · exact (congrArg (fun sel => (withdraw sel (advanceTo c.timer s)).link.queue) (any_isClaimFor hc)).trans
        (withdraw_queue_offLine offLine)
  · intro on
    rw [claimExpires_onLine (s := advanceTo c.timer s) on] at run
    refine ⟨_, run, rfl, ?_, rfl, rfl, fun e hq hf => withdraw_marks hq hf, rfl, rfl⟩
    simp [isFor]

end Sys2Proof.ClaimRounds
end

section
/-!
Pitch and control-voltage arithmetic (05): the mapping of a pitch to a code (R95) and its monotonicity (R96), the glide step (R93), and
what each step keeps of the committed calibration tables (R96, R165, R185).
-/
namespace Sys2Proof.PitchArithmetic
open Sys2Proof Sys2Proof.Machine Sys2Proof.Safety

/-! ### Calibrated interpolation (R95) -/

/-- The line of segment k of a table at pitch p, before the clamp of R95. -/
def segmentCode (t : CalTable) (k p : Nat) : Int :=
  (tabAt t k).toNat + ((((tabAt t (k + 1)).toNat : Int) - (tabAt t k).toNat) * (p - 3072 * k) + 1536) / 3072

theorem clampCode_toNat (v : Int) : ((clampCode v).toNat : Int) = max 0 (min 65535 v) := by
  simp only [clampCode, clampInt, BitVec.toNat_ofNat]
  omega

theorem clampCode_of_code (c : Code) : clampCode (c.toNat : Int) = c := by
  apply BitVec.eq_of_toNat_eq
  have clamped := clampCode_toNat c.toNat
  have := c.isLt
  omega

/-- The model's mapping is the line of the pitch's segment, clamped. -/
theorem pitchCode_eq (t : CalTable) (p : Nat) : pitchCode t p = clampCode (segmentCode t (min (p / 3072) 9) p) := by
  rw [pitchCode, segmentCode, Int.fdiv_eq_ediv_of_nonneg _ (by decide)]

/-- A segment begins at its breakpoint's code. -/
theorem segmentCode_start (t : CalTable) (k : Nat) : segmentCode t k (3072 * k) = (tabAt t k).toNat := by
  simp [segmentCode]

/-- A segment ends at the next breakpoint's code. -/
theorem segmentCode_end (t : CalTable) (k : Nat) : segmentCode t k (3072 * (k + 1)) = (tabAt t (k + 1)).toNat := by
  have offset : ((3072 * (k + 1) : Nat) : Int) - 3072 * k = 3072 := by omega
  rw [segmentCode, offset]
  omega

/-- At a breakpoint the mapping gives the breakpoint code. -/
theorem pitchCode_breakpoint (t : CalTable) (k : Fin 10) : pitchCode t (3072 * k.val) = tabAt t k.val := by
  have segment : min (3072 * k.val / 3072) 9 = k.val := by omega
  rw [pitchCode_eq, segment, segmentCode_start, clampCode_of_code]

/-- No channel's code reads the Tune Unit's working tables. -/
theorem channelCode_work (s : State) (u : VoiceIdx) (w : Option TuneWork) (c : Fin 8) :
    channelCode { s with tune := { s.tune with work := w } } u c = channelCode s u c := rfl

/-- Settles O37: the mapping is the clamped line of the segment, which starts at the breakpoint's code. -/
theorem pitchIsMapped : Obligations.PitchIsMapped := by
  refine ⟨fun t p hp => ?_, pitchCode_breakpoint, fun s u w => ⟨rfl, rfl, channelCode_work s u w⟩⟩
  have offset : ((p - 3072 * min (p / 3072) 9 : Nat) : Int) = p - 3072 * (min (p / 3072) 9 : Nat) := by omega
  simp only [offset]
  rw [pitchCode_eq, clampCode_toNat]
  rfl

/-! ### The mapping is monotone (R96) -/

theorem increasing_iff {t : CalTable} :
    increasing t = true ↔ ∀ k < 10, (tabAt t k).toNat < (tabAt t (k + 1)).toNat := by
  simp [increasing, BitVec.lt_def]

/-- Within a segment of a rising table the line does not fall. -/
theorem segmentCode_mono {t : CalTable} {k p q : Nat} (h : (tabAt t k).toNat < (tabAt t (k + 1)).toNat) (hpq : p ≤ q) :
    segmentCode t k p ≤ segmentCode t k q := by
  have span : (0 : Int) ≤ (tabAt t (k + 1)).toNat - (tabAt t k).toNat := by omega
  have offset : (p : Int) - 3072 * k ≤ q - 3072 * k := by omega
  have scaled := Int.mul_le_mul_of_nonneg_left offset span
  unfold segmentCode
  omega

/-- One pitch unit up the line does not fall: it stays in its segment, or it reaches the breakpoint that ends it. -/
theorem segmentCode_succ {t : CalTable} (h : increasing t = true) (p : Nat) :
    segmentCode t (min (p / 3072) 9) p ≤ segmentCode t (min ((p + 1) / 3072) 9) (p + 1) := by
  have rises := increasing_iff.mp h
  by_cases same : min ((p + 1) / 3072) 9 = min (p / 3072) 9
  · rw [same]
    exact segmentCode_mono (rises _ (by omega)) (Nat.le_succ p)
  · have next : min ((p + 1) / 3072) 9 = min (p / 3072) 9 + 1 := by omega
    have reached : p + 1 = 3072 * (min (p / 3072) 9 + 1) := by omega
    calc segmentCode t (min (p / 3072) 9) p
        ≤ segmentCode t (min (p / 3072) 9) (p + 1) := segmentCode_mono (rises _ (by omega)) (Nat.le_succ p)
      _ = segmentCode t (min ((p + 1) / 3072) 9) (p + 1) := by
        rw [next, reached, segmentCode_end, segmentCode_start]

/-- For a strictly increasing table the code does not decrease from one pitch unit to the next. -/
theorem pitchCode_succ {t : CalTable} (h : increasing t = true) (p : Nat) :
    (pitchCode t p).toNat ≤ (pitchCode t (p + 1)).toNat := by
  have line := segmentCode_succ h p
  have low := clampCode_toNat (segmentCode t (min (p / 3072) 9) p)
  have high := clampCode_toNat (segmentCode t (min ((p + 1) / 3072) 9) (p + 1))
  rw [pitchCode_eq, pitchCode_eq]
  omega

/-- So the code never decreases as the pitch rises. -/
theorem pitchCode_mono {t : CalTable} {p q : Nat} (h : increasing t = true) (hpq : p ≤ q) :
    (pitchCode t p).toNat ≤ (pitchCode t q).toNat := by
  induction hpq with
  | refl => exact Nat.le_refl _
  | step _ ih => exact Nat.le_trans ih (pitchCode_succ h _)

/-! ### Reference codes of the slots (R109, R113) -/

theorem slotOf_inj {u : VoiceIdx} {c d : Fin 8} : slotOf u c = slotOf u d ↔ c = d := by
  simp only [slotOf, Fin.ext_iff]
  omega

theorem updSlot_getElem (i j : SlotIdx) (f : Slot → Slot) (s : State) :
    (updSlot i f s).slots[j] = if j = i then f s.slots[i] else s.slots[j] := updAt_getElem s.slots i j f

theorem updGlide_getElem (u v : VoiceIdx) (f : Glide → Glide) (s : State) :
    (updGlide u f s).glides[v] = if v = u then f s.glides[u] else s.glides[v] := updAt_getElem s.glides u v f

/-- An unmarked post leaves its code as the slot's reference code (R109). -/
theorem reference_post (code : Code) (g : Group) (sl : Slot) :
    (Slot.post code g false false sl).reference = some code := by
  unfold Slot.post
  split
  case h_1 => rfl
  case h_2 =>
    split
    case isTrue same => exact same.1
    case isFalse => rfl

/-- A post leaves the in-flight code alone (R109). -/
theorem inFlight_post (code : Code) (g : Group) (a m : Bool) (sl : Slot) :
    (Slot.post code g a m sl).inFlight = sl.inFlight := by
  unfold Slot.post
  split
  · rfl
  · split <;> rfl

/-- The slot posted to refers to the code, and every other slot to what it did (R102). -/
theorem postIfDiffers_reference (i j : SlotIdx) (code : Code) (g : Group) (s : State) :
    (postIfDiffers i code g s).slots[j].reference = if j = i then some code else s.slots[j].reference := by
  unfold postIfDiffers post
  split
  case isTrue same =>
    split
    case isTrue h => rw [h, same]
    case isFalse => rfl
  case isFalse =>
    simp only [updSlot_getElem]
    split
    case isTrue => exact reference_post code g _
    case isFalse => rfl

theorem postIfDiffers_inFlight (i j : SlotIdx) (code : Code) (g : Group) (s : State) :
    (postIfDiffers i code g s).slots[j].inFlight = s.slots[j].inFlight := by
  unfold postIfDiffers post
  split
  case isTrue => rfl
  case isFalse =>
    simp only [updSlot_getElem]
    split
    case isTrue h => rw [inFlight_post, h]
    case isFalse => rfl

/-- The start of a write keeps the reference code of a slot that has no in-flight code (R113). -/
theorem reference_begin {sl : Slot} (h : sl.inFlight = none) : sl.begin.reference = sl.reference := by
  obtain ⟨last, written, pending, flight⟩ := sl
  subst h
  cases pending <;> cases last <;> rfl

theorem beginWrite_getElem (i j : SlotIdx) (s : State) :
    (beginWrite i s).slots[j] = if j = i then s.slots[i].begin else s.slots[j] := updAt_getElem s.slots i j Slot.begin

/-- While the port is idle no slot has a code in flight (R108, R113). -/
theorem inFlight_none_of_idle {s : State} (h : PortLaw s) (idle : s.sched.port = .idle) (j : SlotIdx) :
    s.slots[j].inFlight = none := by
  cases flight : s.slots[j].inFlight with
  | none => rfl
  | some f =>
    have flying : s.slots[j].inFlight ≠ none := by rw [flight]; exact Option.some_ne_none f
    obtain ⟨step, ends, busy⟩ := h j flying
    rw [idle] at busy
    cases busy

/-- A selection keeps every reference code: the write that it begins carries the reference code of its slot (R112, R113). -/
theorem select_reference {s : State} (h : PortLaw s) (j : SlotIdx) : (select s).slots[j].reference = s.slots[j].reference := by
  unfold select
  split
  case isFalse => rfl
  case isTrue free =>
    obtain ⟨-, idle⟩ : selecting s = true ∧ s.sched.port = .idle := by simpa using free
    split
    case h_2 => rfl
    case h_1 i _ =>
      rw [beginWrite_getElem]
      split
      case isTrue hj => rw [reference_begin (inFlight_none_of_idle h idle i), hj]
      case isFalse => rfl

theorem selectIfPosted_reference {s : State} (h : PortLaw s) (j : SlotIdx) :
    (selectIfPosted s).slots[j].reference = s.slots[j].reference := by
  unfold selectIfPosted
  split
  · exact select_reference h j
  · rfl

/-- The port law is read off the codes in flight and the port. -/
theorem portLaw_congr {s t : State} (h : PortLaw s) (hf : ∀ i : SlotIdx, t.slots[i].inFlight = s.slots[i].inFlight)
    (hp : t.sched = s.sched) : PortLaw t := by
  intro i flying
  rw [hp]
  exact h i (hf i ▸ flying)

/-! ### A recomputation of channels (R101, R102) -/

/-- States s and t agree in all that the channel codes of voice u are computed from (R88). -/
def SameInputs (u : VoiceIdx) (s t : State) : Prop :=
  t.start = s.start ∧ t.voices = s.voices ∧ t.sources = s.sources ∧ t.live = s.live ∧ t.calib = s.calib ∧
    t.glides[u].pg = s.glides[u].pg

theorem channelCode_congr {u : VoiceIdx} {s t : State} (h : SameInputs u s t) (c : Fin 8) :
    channelCode t u c = channelCode s u c := by
  obtain ⟨start, voices, sources, live, calib, pg⟩ := h
  have p1 : rawP1 t u = rawP1 s u := by simp only [rawP1, bendOf, param, start, voices, sources, live, pg]
  have p2 : rawP2 t u = rawP2 s u := by simp only [rawP2, p1, param, live]
  simp only [channelCode, p1, p2, param, voices, live, calib]

/-- Glides g and h agree but for the pitch-clamp flag. -/
def SameGlide (g h : Glide) : Prop := h.pg = g.pg ∧ h.pt = g.pt ∧ h.timer = g.timer

/-- Noting a clamp changes at most the flag of its voice (R91). -/
theorem noteClamp_glides (u v : VoiceIdx) (cs : List (Fin 8)) (s : State) :
    SameGlide s.glides[v] (noteClamp u cs s).glides[v] ∧ (v ≠ u → (noteClamp u cs s).glides[v] = s.glides[v]) := by
  unfold noteClamp
  split
  case isFalse => exact ⟨⟨rfl, rfl, rfl⟩, fun _ => rfl⟩
  case isTrue =>
    rw [updGlide_getElem]
    split
    case isTrue h => exact ⟨h ▸ ⟨rfl, rfl, rfl⟩, fun ne => absurd h ne⟩
    case isFalse => exact ⟨⟨rfl, rfl, rfl⟩, fun _ => rfl⟩

theorem noteClamp_slots (u : VoiceIdx) (cs : List (Fin 8)) (s : State) : (noteClamp u cs s).slots = s.slots := by
  unfold noteClamp
  split <;> rfl

/-- Recomputed channels leave the glides alone but for the noted clamp. -/
theorem recompute_glides (u v : VoiceIdx) (cs : List (Fin 8)) (s : State) :
    SameGlide s.glides[v] (recompute u cs s).glides[v] ∧ (v ≠ u → (recompute u cs s).glides[v] = s.glides[v]) := by
  unfold recompute
  split
  case isFalse => exact ⟨⟨rfl, rfl, rfl⟩, fun _ => rfl⟩
  case isTrue =>
    have posts : (cs.foldl (recomputeChannel u) (noteClamp u cs s)).glides = (noteClamp u cs s).glides :=
      foldl_keeps (P := fun t => t.glides = (noteClamp u cs s).glides) (fun t c h => by simp [h]) rfl
    simp only [posts]
    exact noteClamp_glides u v cs s

theorem recomputeChannel_inFlight (u : VoiceIdx) (c : Fin 8) (j : SlotIdx) (s : State) :
    (recomputeChannel u s c).slots[j].inFlight = s.slots[j].inFlight := by
  unfold recomputeChannel
  split
  · rfl
  · exact postIfDiffers_inFlight _ j _ _ s

theorem recompute_inFlight (u : VoiceIdx) (cs : List (Fin 8)) (j : SlotIdx) (s : State) :
    (recompute u cs s).slots[j].inFlight = s.slots[j].inFlight := by
  unfold recompute
  split
  case isFalse => rfl
  case isTrue =>
    refine foldl_keeps (P := fun t => t.slots[j].inFlight = s.slots[j].inFlight) (fun t c h => ?_) ?_
    · rw [recomputeChannel_inFlight, h]
    · simp only [noteClamp_slots]

/-- A recomputed channel other than LVL refers to its code, and the voice's other channels to what they did (R102). -/
theorem recomputeChannel_reference (u : VoiceIdx) {c d : Fin 8} (hc : c ≠ chLvl) (s : State) :
    (recomputeChannel u s d).slots[slotOf u c].reference =
      if c = d then some (channelCode s u c) else s.slots[slotOf u c].reference := by
  unfold recomputeChannel
  split
  case isTrue forced =>
    have other : c ≠ d := fun h => hc (h.trans forced.1)
    exact (if_neg other).symm
  case isFalse =>
    rw [postIfDiffers_reference]
    simp only [slotOf_inj]
    split
    case isTrue h => rw [h]
    case isFalse => rfl

/-- Posts of a voice's channels do not change what its codes are computed from. -/
theorem sameInputs_recomputeChannel (u : VoiceIdx) (d : Fin 8) (s : State) : SameInputs u s (recomputeChannel u s d) := by
  simp [SameInputs]

/-- After the posts of channels `cs`, each of them but LVL refers to its code. -/
theorem foldl_recomputeChannel_reference {u : VoiceIdx} {c : Fin 8} (hc : c ≠ chLvl) {cs : List (Fin 8)} {s : State}
    (h : c ∈ cs ∨ s.slots[slotOf u c].reference = some (channelCode s u c)) :
    (cs.foldl (recomputeChannel u) s).slots[slotOf u c].reference = some (channelCode s u c) := by
  induction cs generalizing s with
  | nil => simpa using h
  | cons d cs ih =>
    have code := channelCode_congr (sameInputs_recomputeChannel u d s) c
    rw [List.foldl_cons, ← code]
    apply ih
    rw [recomputeChannel_reference u hc, code]
    by_cases hd : c = d
    · exact .inr (if_pos hd)
    · rw [if_neg hd]
      exact h.imp_left fun mem => (List.mem_cons.mp mem).resolve_left hd

theorem sameInputs_noteClamp (u : VoiceIdx) (cs : List (Fin 8)) (s : State) : SameInputs u s (noteClamp u cs s) := by
  obtain ⟨⟨pg, -, -⟩, -⟩ := noteClamp_glides u u cs s
  exact ⟨by simp, by simp, by simp, by simp, by simp, pg⟩

theorem sameInputs_recompute (u : VoiceIdx) (cs : List (Fin 8)) (s : State) : SameInputs u s (recompute u cs s) := by
  obtain ⟨⟨pg, -, -⟩, -⟩ := recompute_glides u u cs s
  exact ⟨by simp, by simp, by simp, by simp, by simp, pg⟩

theorem sameInputs_selectIfPosted (u : VoiceIdx) (s : State) : SameInputs u s (selectIfPosted s) := by
  simp [SameInputs]

/-- After a recomputation each channel recomputed, other than LVL, refers to its code (R101, R102). -/
theorem recompute_reference {u : VoiceIdx} {c : Fin 8} {cs : List (Fin 8)} {s : State}
    (computed : s.voices[u].state.computed = true) (hc : c ≠ chLvl) (mem : c ∈ cs) :
    (recompute u cs s).slots[slotOf u c].reference = some (channelCode (recompute u cs s) u c) := by
  have posts : recompute u cs s = cs.foldl (recomputeChannel u) (noteClamp u cs s) := if_pos computed
  rw [channelCode_congr (sameInputs_recompute u cs s) c, ← channelCode_congr (sameInputs_noteClamp u cs s) c, posts]
  exact foldl_recomputeChannel_reference hc (.inl mem)

/-! ### The glide step (R93) -/

/-- GLIDE_STEP of a running timer in a settled station: the step at the timer's end, and a selection if it posted a code. -/
theorem exec_glideStep {s : State} {u : VoiceIdx} {d : Nat} (hs : Settled s) (hd : s.glides[u].timer = some d) :
    exec (.glideStep u) s = .next (selectIfPosted (glideStep u d (advanceTo d s))) := by
  obtain ⟨notices, seq, -⟩ := hs
  simp only [exec, execGlideStep, hd]
  rw [finish_select (by simpa using notices) (by simpa using seq)]

/-- One step of Pg is at most the rate long and ends at Pt if it can (R93). -/
theorem glideMove_eq (g : Nat) (pg pt : Int) : glideMove g pg pt =
    if g = 0 ∨ (pt - pg).natAbs ≤ 65536 / (g * g) then pt
    else if pg < pt then pg + (65536 / (g * g) : Nat) else pg - (65536 / (g * g) : Nat) := by
  unfold glideMove glideRate
  by_cases h : g = 0
  · rw [if_pos h, if_pos (.inl h)]
  · rw [if_neg h]
    simp only [h, false_or]

/-- The glide of voice u after its step: Pg moved, and the timer stopped at the target or run on for 1 ms (R93). -/
theorem glideStep_glide (u : VoiceIdx) (d : Nat) (s : State) :
    (glideStep u d s).glides[u].pg = glideMove (glideParam s) s.glides[u].pg s.glides[u].pt ∧
    (glideStep u d s).glides[u].pt = s.glides[u].pt ∧
    (glideStep u d s).glides[u].timer =
      if (glideStep u d s).glides[u].pg = s.glides[u].pt then none else some (d + 1000) := by
  obtain ⟨⟨pg, pt, timer⟩, -⟩ := recompute_glides u u pitchChannels (updGlide u (fun g =>
    let pg := glideMove (glideParam s) g.pg g.pt
    { g with pg := pg, timer := if pg = g.pt then none else some (d + Config.glideUs) }) s)
  rw [updGlide_getElem, if_pos rfl] at pg pt timer
  unfold glideStep
  rw [pg]
  exact ⟨rfl, pt, timer⟩

theorem glideStep_otherGlides {u v : VoiceIdx} (hv : v ≠ u) (d : Nat) (s : State) :
    (glideStep u d s).glides[v] = s.glides[v] := by
  unfold glideStep
  rw [(recompute_glides u v _ _).2 hv, updGlide_getElem, if_neg hv]

theorem glideStep_portLaw {u : VoiceIdx} {d : Nat} {s : State} (h : PortLaw s) : PortLaw (glideStep u d s) := by
  refine portLaw_congr h (fun i => ?_) (by simp)
  unfold glideStep
  rw [recompute_inFlight]
  rfl

/-- After a glide step of a computed voice P1, P2 and CUT refer to the codes of the stepped pitch (R93, R101). -/
theorem glideStep_reference {u : VoiceIdx} {d : Nat} {s : State} {c : Fin 8} (computed : s.voices[u].state.computed = true)
    (hc : c ∈ pitchChannels) :
    (glideStep u d s).slots[slotOf u c].reference = some (channelCode (glideStep u d s) u c) := by
  have level : c ≠ chLvl := by
    rintro rfl
    exact absurd hc (by decide)
  exact recompute_reference computed level hc

/-- Settles O36: the glide is that of `glideStep`, and the selection after it keeps the reference codes. -/
theorem glideStepMovesPitch : Obligations.GlideStepMovesPitch := by
  intro s u d hs hd
  obtain ⟨pg, pt, timer⟩ := glideStep_glide u d (advanceTo d s)
  refine ⟨_, exec_glideStep hs hd, ?_⟩
  simp only [selectIfPosted_keeps, glideStep_keeps, pt]
  refine ⟨rfl, rfl, pg.trans (glideMove_eq _ _ _), timer, fun computed port c hc => ?_,
    fun v hv => glideStep_otherGlides hv d _, rfl, rfl, rfl, rfl, rfl, rfl, rfl, rfl⟩
  have posted : c ∈ pitchChannels := by simpa [pitchChannels] using hc
  have law : PortLaw (glideStep u d (advanceTo d s)) := glideStep_portLaw port
  rw [selectIfPosted_reference law, channelCode_congr (sameInputs_selectIfPosted u _)]
  exact glideStep_reference computed posted

/-! ### What leaves the calibration states alone

One lemma for each operation of the model that Laws/Ops.lean does not treat, in the order of the definitions. -/

@[simp] theorem giveUpClaim_calib (i : Ident) (s : State) : (giveUpClaim i s).calib = s.calib := rfl

@[simp] theorem winClaim_calib (i : Ident) (u : VoiceIdx) (s : State) : (winClaim i u s).calib = s.calib := by
  unfold winClaim; split <;> simp

@[simp] theorem decideClaim_calib (i : Ident) (vel : Velocity) (s : State) : (decideClaim i vel s).calib = s.calib := by
  unfold decideClaim; repeat' split
  all_goals simp

@[simp] theorem claimExpires_calib (i : Ident) (s : State) : (claimExpires i s).calib = s.calib := by
  unfold claimExpires; split <;> simp

@[simp] theorem endExpired_calib (i : Ident) (s : State) : (endExpired i s).calib = s.calib := by
  unfold endExpired; split <;> simp

@[simp] theorem noteOffVoice_calib (i : Ident) (s : State) : (noteOffVoice i s).calib = s.calib := by
  unfold noteOffVoice; repeat' split
  all_goals simp

@[simp] theorem setBend_calib (src : Station) (b : Int) (s : State) : (setBend src b s).calib = s.calib := by
  unfold setBend; simp only; split <;> simp

@[simp] theorem setSustain_calib (src : Station) (on : Bool) (s : State) : (setSustain src on s).calib = s.calib := by
  unfold setSustain; simp only; split <;> simp

@[simp] theorem helloVoices_calib (src : Station) (s : State) : (helloVoices src s).calib = s.calib := by
  simp [helloVoices]

@[simp] theorem loadVoices_calib (s : State) : (loadVoices s).calib = s.calib := rfl
@[simp] theorem restartVoices_calib (s : State) : (restartVoices s).calib = s.calib := rfl
@[simp] theorem finishOperation_calib (s : State) : (finishOperation s).calib = s.calib := rfl
@[simp] theorem restartMemory_calib (s : State) : (restartMemory s).calib = s.calib := rfl
@[simp] theorem requestTunes_calib (mask : Byte) (s : State) : (requestTunes mask s).calib = s.calib := rfl

@[simp] theorem addPair_calib (t : Station) (w : VoiceIdx) (s : State) : (addPair t w s).calib = s.calib := by
  unfold addPair; split <;> simp

@[simp] theorem removePairs_calib (sel : Station × VoiceIdx → Bool) (s : State) : (removePairs sel s).calib = s.calib := by
  unfold removePairs; split <;> simp

@[simp] theorem helloTune_calib (src : Station) (s : State) : (helloTune src s).calib = s.calib := by
  unfold helloTune; simp only; split <;> simp

@[simp] theorem beginPass_calib (u : VoiceIdx) (w : TuneWork) (s : State) : (beginPass u w s).calib = s.calib := rfl
@[simp] theorem selectOsc_calib (u : VoiceIdx) (o : Osc) (s : State) : (selectOsc u o s).calib = s.calib := rfl
@[simp] theorem beginMeasure_calib (w : VoiceIdx) (s : State) : (beginMeasure w s).calib = s.calib := rfl

@[simp] theorem endStray_calib (w : VoiceIdx) (s : State) : (endStray w s).calib = s.calib := by
  simp [endStray]

@[simp] theorem ownTuneBegin_calib (w : VoiceIdx) (s : State) : (ownTuneBegin w s).calib = s.calib := by
  unfold ownTuneBegin; split <;> simp

@[simp] theorem measureWritten_calib (u : VoiceIdx) (s : State) : (measureWritten u s).calib = s.calib := by
  unfold measureWritten; split <;> simp

@[simp] theorem clearMeasure_calib (u : VoiceIdx) (s : State) : (clearMeasure u s).calib = s.calib := rfl

@[simp] theorem handTuneEnd_calib (u : VoiceIdx) (s : State) : (handTuneEnd u s).calib = s.calib := by
  unfold handTuneEnd; simp only; repeat' split
  all_goals simp

@[simp] theorem handCal_calib (u : VoiceIdx) (r : MemReq) (s : State) : (handCal u r s).calib = s.calib := by
  unfold handCal; split <;> simp

@[simp] theorem tuneRoom_calib (s : State) : (tuneRoom s).calib = s.calib := by
  unfold tuneRoom; split <;> simp

@[simp] theorem finishTune_calib (u : VoiceIdx) (o : TuneOutcome) (d : Byte) (s : State) :
    (finishTune u o d s).calib = s.calib := by
  simp [finishTune]

@[simp] theorem stopCounter_calib (s : State) : (stopCounter s).calib = s.calib := rfl

@[simp] theorem stopMeasure_calib (u : VoiceIdx) (w : TuneWork) (s : State) : (stopMeasure u w s).calib = s.calib := by
  simp [stopMeasure]

@[simp] theorem stopTune_calib (s : State) : (stopTune s).calib = s.calib := by
  unfold stopTune; simp only; split <;> simp

@[simp] theorem abortTune_calib (s : State) : (abortTune s).calib = s.calib := by
  unfold abortTune; simp only; split <;> simp

@[simp] theorem restartTune_calib (s : State) : (restartTune s).calib = s.calib := rfl

@[simp] theorem startScanner_calib (s : State) : (startScanner s).calib = s.calib := by
  unfold startScanner; split <;> simp

@[simp] theorem stopScanner_calib (s : State) : (stopScanner s).calib = s.calib := rfl

@[simp] theorem handKnob_calib (i : Fin 32) (v : Nat) (s : State) : (handKnob i v s).calib = s.calib := by
  simp [handKnob]

@[simp] theorem setPickup_calib (i : Fin 32) (p : Pickup) (s : State) : (setPickup i p s).calib = s.calib := rfl

@[simp] theorem paramKnobMoved_calib (i : Fin 32) (p : Fin 16) (q0 q : Nat) (s : State) :
    (paramKnobMoved i p q0 q s).calib = s.calib := by
  unfold paramKnobMoved; simp only; repeat' split
  all_goals simp

@[simp] theorem knobMoved_calib (i : Fin 32) (q0 q : Nat) (s : State) : (knobMoved i q0 q s).calib = s.calib := by
  unfold knobMoved; split <;> simp

@[simp] theorem firstReading_calib (i : Fin 32) (avg : Nat) (s : State) : (firstReading i avg s).calib = s.calib := rfl

@[simp] theorem laterReading_calib (i : Fin 32) (avg r : Nat) (s : State) : (laterReading i avg r s).calib = s.calib := by
  unfold laterReading; simp only; repeat' split
  all_goals simp

@[simp] theorem knobSample_calib (i : Fin 32) (x : BitVec 12) (s : State) : (knobSample i x s).calib = s.calib := by
  unfold knobSample; simp only; repeat' split
  all_goals simp

@[simp] theorem nextSample_calib (i : Fin 32) (s : State) : (nextSample i s).calib = s.calib := by
  unfold nextSample; split <;> simp

@[simp] theorem beginRound_calib (s : State) : (beginRound s).calib = s.calib := rfl

@[simp] theorem repick_calib (p : Fin 16) (s : State) : (repick p s).calib = s.calib := by
  unfold repick; split <;> simp

@[simp] theorem uncatch_calib (p : Fin 16) (s : State) : (uncatch p s).calib = s.calib := by
  unfold uncatch; split <;> simp

@[simp] theorem followStep_calib (p : Fin 16) (s : State) : (followStep p s).calib = s.calib := by
  unfold followStep; repeat' split
  all_goals simp

@[simp] theorem endPass_calib (s : State) : (endPass s).calib = s.calib := by
  simp [endPass]

@[simp] theorem nextRow_calib (s : State) : (nextRow s).calib = s.calib := rfl

@[simp] theorem rowEnds_calib (ss : BitVec 8) (s : State) : (rowEnds ss s).calib = s.calib := by
  unfold rowEnds; simp only; split <;> simp

@[simp] theorem applyParam_calib (p : Fin 16) (x : BitVec 16) (s : State) : (applyParam p x s).calib = s.calib := by
  simp [applyParam]

@[simp] theorem setLive_calib (values : Vector Nat 16) (s : State) : (setLive values s).calib = s.calib := rfl

/-- A fold of steps that leave the calibration states alone. -/
theorem foldl_calib {α : Type} {f : State → α → State} (h : ∀ t a, (f t a).calib = t.calib) (l : List α) (s : State) :
    (l.foldl f s).calib = s.calib :=
  foldl_keeps (P := fun t => t.calib = s.calib) (fun t a ht => (h t a).trans ht) rfl

@[simp] theorem recallApply_calib (m : Byte) (values : Vector Nat 16) (s : State) :
    (recallApply m values s).calib = s.calib := by
  unfold recallApply
  split
  · rw [recallNow, foldl_calib fun t p => uncatch_calib p t]
    simp
  · exact foldl_calib (fun t p => uncatch_calib p t) _ _

@[simp] theorem stepGroup_calib (ps : List (Fin 16)) (s : State) : (stepGroup ps s).calib = s.calib := by
  unfold stepGroup
  simp only [foldl_calib fun t p => followStep_calib p t, paramsChanged_keeps]
  exact foldl_calib (fun t p => updParam_calib p _ t) ps s

@[simp] theorem settleLive_calib (s : State) : (settleLive s).calib = s.calib := rfl

@[simp] theorem enterMuted_calib (c : FaultCode) (d : Byte) (s : State) : (enterMuted c d s).calib = s.calib := by
  have levels (t : State) : (forVoices forceLevel t).calib = t.calib :=
    forVoices_keeps (P := fun x => x.calib = t.calib) (fun u x h => by simp [h]) rfl
  simp [enterMuted, levels]

@[simp] theorem leaveLine_calib (read : List Bool) (s : State) : (leaveLine read s).calib = s.calib := rfl

@[simp] theorem flushQueue_calib (s : State) : (flushQueue s).calib = s.calib := by
  unfold flushQueue breakOwnFrame; split <;> simp

@[simp] theorem abandonLoads_calib (s : State) : (abandonLoads s).calib = s.calib := by
  unfold abandonLoads; split <;> simp

@[simp] theorem enterSilent_calib (c : FaultCode) (d : Byte) (s : State) : (enterSilent c d s).calib = s.calib := by
  simp [enterSilent]

@[simp] theorem raiseFault_calib (c : FaultCode) (d : Byte) (s : State) : (raiseFault c d s).calib = s.calib := by
  unfold raiseFault; split <;> simp

@[simp] theorem enterRunning_calib (s : State) : (enterRunning s).calib = s.calib := by
  unfold enterRunning; simp only; split <;> simp

@[simp] theorem endLoading_calib (s : State) : (endLoading s).calib = s.calib := by
  simp [endLoading]

@[simp] theorem startProbe_calib (s : State) : (startProbe s).calib = s.calib := by
  unfold startProbe; split <;> simp

@[simp] theorem enterLoading_calib (s : State) : (enterLoading s).calib = s.calib := by
  simp [enterLoading]

@[simp] theorem fillLoads_calib (s : State) : (fillLoads s).calib = s.calib := by
  unfold fillLoads
  split
  · exact foldl_calib (fun t r => by simp) _ _
  · rfl

@[simp] theorem loadsComplete_calib (s : State) : (loadsComplete s).calib = s.calib := by
  unfold loadsComplete; split <;> simp

@[simp] theorem recallResult_calib (slot : PatchSlot) (m : Byte) (page : Vector Byte 64) (s : State) :
    (recallResult slot m page s).calib = s.calib := by
  unfold recallResult; repeat' split
  all_goals simp

@[simp] theorem joinReady_calib (s : State) : (joinReady s).calib = s.calib := by
  unfold joinReady; split <;> simp

@[simp] theorem holdSetup_calib (p l t i : Byte) (s : State) : (holdSetup p l t i s).calib = s.calib := rfl

@[simp] theorem acceptSetup_calib (p l t i : Byte) (s : State) : (acceptSetup p l t i s).calib = s.calib := by
  unfold acceptSetup; simp only; split <;> simp

@[simp] theorem takeDefaults_calib (s : State) : (takeDefaults s).calib = s.calib := rfl

@[simp] theorem leaveAnnounce_calib (s : State) : (leaveAnnounce s).calib = s.calib := by
  unfold leaveAnnounce; repeat' split
  all_goals simp

@[simp] theorem restart_calib (s : State) : (restart s).calib = s.calib := by
  unfold restart; simp only; split <;> simp

@[simp] theorem beginSlot_calib (j : Fin 8) (s : State) : (beginSlot j s).calib = s.calib := rfl

@[simp] theorem endSensing_calib (low : BitVec 8) (vcnt : BitVec 3) (scan : Bool) (s : State) :
    (endSensing low vcnt scan s).calib = s.calib := rfl

@[simp] theorem followed_calib (s : State) : (followed s).calib = s.calib := rfl
@[simp] theorem ownTaken_calib (e : TxEntry) (s : State) : (ownTaken e s).calib = s.calib := rfl

theorem hear_calib {effect : State → State} (h : ∀ t, (effect t).calib = t.calib) (s : State) :
    (hear effect s).calib = s.calib := by
  unfold hear; simp only; split <;> simp [h]

theorem takeFrame_calib {effect : State → State} (h : ∀ t, (effect t).calib = t.calib) (s : State) :
    (takeFrame effect s).calib = s.calib := by
  unfold takeFrame; split <;> simp [hear_calib h]

theorem takeOwnFrame_calib {f : Frame} {effect : Bool → State → State} (h : ∀ b t, (effect b t).calib = t.calib) (s : State) :
    (takeOwnFrame f effect s).calib = s.calib := by
  unfold takeOwnFrame; simp only; repeat' split
  all_goals simp [h]

@[simp] theorem tuneBeginEffect_calib (t : Station) (own : Bool) (w : VoiceIdx) (r : Bool) (s : State) :
    (tuneBeginEffect t own w r s).calib = s.calib := by
  unfold tuneBeginEffect; simp only; repeat' split
  all_goals simp

@[simp] theorem tuneEndEffect_calib (t : Station) (w : VoiceIdx) (s : State) : (tuneEndEffect t w s).calib = s.calib := by
  unfold tuneEndEffect; simp only; repeat' split
  all_goals simp

@[simp] theorem recallEffect_calib (slot m : Byte) (s : State) : (recallEffect slot m s).calib = s.calib := by
  unfold recallEffect; repeat' split
  all_goals simp

@[simp] theorem storeEffect_calib (slot : Byte) (s : State) : (storeEffect slot s).calib = s.calib := by
  unfold storeEffect; repeat' split
  all_goals simp

@[simp] theorem knobEffect_calib (b : Bool) (k : Byte) (x : BitVec 16) (s : State) : (knobEffect b k x s).calib = s.calib := by
  unfold knobEffect; simp only; repeat' split
  all_goals simp

@[simp] theorem helloEffect_calib (src : Station) (s : State) : (helloEffect src s).calib = s.calib := by
  unfold helloEffect; repeat' split
  all_goals simp

@[simp] theorem ownEffect_calib (f : Frame) (b : Bool) (s : State) : (ownEffect f b s).calib = s.calib := by
  unfold ownEffect; split <;> simp

@[simp] theorem withdrawnAtCheck_calib (e : TxEntry) (s : State) : (withdrawnAtCheck e s).calib = s.calib := by
  unfold withdrawnAtCheck; repeat' split
  all_goals simp

@[simp] theorem checkHead_calib (s : State) : (checkHead s).calib = s.calib := by
  unfold checkHead
  split
  · rfl
  · exact foldl_calib (fun t e => withdrawnAtCheck_calib e t) _ _

@[simp] theorem driveHead_calib (s : State) : (driveHead s).calib = s.calib := by
  unfold driveHead; split <;> simp

@[simp] theorem requeue_calib (n : Nat) (s : State) : (requeue n s).calib = s.calib := rfl

@[simp] theorem dropWithdrawn_calib (e : TxEntry) (s : State) : (dropWithdrawn e s).calib = s.calib := by
  unfold dropWithdrawn; simp only; split <;> simp

@[simp] theorem afterCollision_calib (e : TxEntry) (s : State) : (afterCollision e s).calib = s.calib := by
  unfold afterCollision; repeat' split
  all_goals simp

@[simp] theorem countCollision_calib (s : State) : (countCollision s).calib = s.calib := rfl
@[simp] theorem loseAtCollision_calib (e : TxEntry) (s : State) : (loseAtCollision e s).calib = s.calib := by
  simp [loseAtCollision]

@[simp] theorem checkConsecutive_calib (s : State) : (checkConsecutive s).calib = s.calib := by
  unfold checkConsecutive; split <;> simp

@[simp] theorem breakOff_calib (f : FramingFault) (s : State) : (breakOff f s).calib = s.calib := rfl
@[simp] theorem followedFaulty_calib (f : RawFrame) (s : State) : (followedFaulty f s).calib = s.calib := rfl

@[simp] theorem followEdge_calib (l : Level) (s : State) : (followEdge l s).calib = s.calib := by
  unfold followEdge; split <;> rfl

@[simp] theorem portStep_calib (i : SlotIdx) (w : WriteStep) (n : Nat) (s : State) : (portStep i w n s).calib = s.calib := rfl
@[simp] theorem beginAcquire_calib (i : SlotIdx) (s : State) : (beginAcquire i s).calib = s.calib := rfl

@[simp] theorem reportMarks_calib (i : SlotIdx) (f : Option Flight) (s : State) : (reportMarks i f s).calib = s.calib := by
  unfold reportMarks; simp only; repeat' split
  all_goals simp

@[simp] theorem countTimeout_calib (i : SlotIdx) (s : State) : (countTimeout i s).calib = s.calib := by
  unfold countTimeout; split <;> simp

@[simp] theorem rivalEffect_calib (r : Rival) (s : State) : (Rival.effect r s).calib = s.calib := by
  unfold Rival.effect; repeat' split
  all_goals simp [hear_calib]

@[simp] theorem afterOperation_calib (r : Rival) (s : State) : (afterOperation (Rival.effect r) s).calib = s.calib := by
  simp [afterOperation]

@[simp] theorem writeEnds_calib (e : MemEntry) (r : Rival) (s : State) : (writeEnds e (Rival.effect r) s).calib = s.calib := by
  unfold writeEnds; simp only; split <;> simp

@[simp] theorem writeFails_calib (e : MemEntry) (r : Rival) (s : State) : (writeFails e (Rival.effect r) s).calib = s.calib := by
  simp [writeFails]

@[simp] theorem stillBusy_calib (rise polls : Nat) (r : Rival) (s : State) : (stillBusy rise polls r s).calib = s.calib := by
  unfold stillBusy; simp only; split <;> simp

@[simp] theorem noteOffEffect_calib (src : Station) (n : Note) (s : State) : (noteOffEffect src n s).calib = s.calib := by
  unfold noteOffEffect; split <;> simp

@[simp] theorem resumeScheduler_calib (before s : State) : (resumeScheduler before s).calib = s.calib := by
  unfold resumeScheduler; split <;> simp

@[simp] theorem applyRecorded_calib (u : VoiceIdx) (s : State) : (applyRecorded u s).calib = s.calib := by
  unfold applyRecorded; simp only; split <;> simp

/-! ### The commands that can change a calibration state -/

/-- The commands whose meaning can change a calibration state: reset, the ends of a probe and of a page read (R37, R165), and the ends of
a count (R184 to R187). -/
def changesCalib : Instr → Bool
  | .powerOnReset | .probeComplete _ | .pageReadComplete _ | .countEnd _ | .startLimitExpiry | .countOverflow => true
  | _ => false

/-- The outcome is a next state with the calibration states of s. -/
def KeepsCalib (s : State) (o : Host.Outcome State Fault Refusal) : Prop := ∃ t, o = .next t ∧ t.calib = s.calib

@[simp] theorem keepsCalib_next {s t : State} : KeepsCalib s (.next t) ↔ t.calib = s.calib := by
  simp [KeepsCalib]

/-- Every other command leaves the calibration states alone. -/
theorem exec_keepsCalib {i : Instr} (h : changesCalib i = false) (s : State) : KeepsCalib s (exec i s) := by
  cases i with
  | powerOnReset | probeComplete | pageReadComplete | countEnd | startLimitExpiry | countOverflow => cases h
  -- Frames of other transmitters, and the station's own
  | noteOn | sustain | allNotesOff | otherClaimTaken | bend | setup | query | tuneRequest | tuneStop =>
    exact keepsCalib_next.mpr (takeFrame_calib (fun t => by split <;> simp) s)
  | param =>
    refine keepsCalib_next.mpr (takeFrame_calib (fun t => ?_) s)
    repeat' split
    all_goals simp
  | noteOff | store => exact keepsCalib_next.mpr (takeFrame_calib (fun t => by simp) s)
  | ownClaimTaken => exact keepsCalib_next.mpr (takeOwnFrame_calib (fun _ t => by simp) s)
  | knob origin | switchTaken origin | reportTaken origin | hello origin | tuneBegin origin | tuneEnd origin =>
    cases origin with
    | own => exact keepsCalib_next.mpr (takeOwnFrame_calib (fun _ t => by simp) s)
    | line => exact keepsCalib_next.mpr (takeFrame_calib (fun t => by simp) s)
  | restart =>
    simp only [exec, execRestart]
    repeat' split
    all_goals simp
  | ownFrameTaken =>
    simp only [exec, execOwnFrameTaken]
    split <;> simp [takeOwnFrame_calib]
  -- The line, the strap slots and the join timers
  | resetEnd | strapSlotEnd | listenTimerExpiry | setupTimerExpiry | transmitStart | lostArbitration | collision | framingError
  | frameDiscarded | startBitReceived =>
    simp only [exec, execResetEnd, execStrapSlotEnd, execListenTimerExpiry, execSetupTimerExpiry, execTransmitStart,
      execLostArbitration, execCollision, execFramingError, execFrameDiscarded, execStartBitReceived]
    repeat' split
    all_goals simp
  -- The voice timers and the tune timers
  | gapTimerExpiry | minimumGateExpiry | releaseTimerExpiry | claimTimeout | glideStep | settleTimerExpiry | tinFirstEdge
  | refreshTimerExpiry =>
    simp only [exec, execGapTimerExpiry, execMinimumGateExpiry, execReleaseTimerExpiry, execClaimTimeout, execGlideStep,
      execSettleTimerExpiry, execTinFirstEdge, execRefreshTimerExpiry]
    repeat' split
    all_goals simp
  -- The ports, the panel and the morphs
  | slotAgeThreshold | drdyReady | writeComplete | holdEnd | drdyTimeout | bankChangeGapEnd | dldPulseEnd | writePoll
  | pageWriteCommandEnd | morphStep | knobRoundStart | knobSampleEnd | matrixRowEnd =>
    simp only [exec, execSlotAgeThreshold, execDrdyReady, execWriteComplete, execHoldEnd, execDrdyTimeout, execBankChangeGapEnd,
      execDldPulseEnd, execWritePoll, execPageWriteCommandEnd, execMorphStep, execKnobRoundStart, execKnobSampleEnd,
      execMatrixRowEnd]
    repeat' split
    all_goals simp
  -- The one command left is RECALL, whose constructor's name is a keyword here
  | _ => exact keepsCalib_next.mpr (takeFrame_calib (recallEffect_calib _ _) s)

/-! ### Rising tables (R96, R165, R185) -/

/-- Both tables of a calibration state are strictly increasing. -/
def RisingTables (c : Calib) : Prop := increasing c.osc1 = true ∧ increasing c.osc2 = true

theorem risingTables_reset : RisingTables Calib.reset := by
  constructor <;> decide

/-- A page is valid only with increasing tables (R165). -/
theorem risingTables_judgeCal {u : VoiceIdx} {page : Vector Byte 64} {c : Calib} (h : judgeCal u page = some c) :
    RisingTables c := by
  unfold judgeCal at h
  simp only at h
  split at h
  case h_1 => cases h
  case h_2 =>
    split at h
    case isFalse => cases h
    case isTrue valid =>
      obtain ⟨-, -, -, rising1, rising2⟩ := valid
      cases h
      exact ⟨rising1, rising2⟩

/-- A table without a first descent is increasing (R185). -/
theorem increasing_of_firstDescent {t : CalTable} (h : firstDescent t = none) : increasing t = true := by
  simpa [firstDescent, increasing] using h

/-- The law of the committed tables is read off the calibration states. -/
theorem calibLaw_congr {s t : State} (h : CalibLaw s) (same : t.calib = s.calib) : CalibLaw t := by
  unfold CalibLaw
  rwa [same]

theorem calibLaw_updCalib {u : VoiceIdx} {f : Calib → Calib} {s : State} (h : CalibLaw s) (hf : RisingTables (f s.calib[u])) :
    CalibLaw (updCalib u f s) := by
  intro v
  have upd := updAt_getElem s.calib u v f
  rw [← updCalib_calib] at upd
  rw [upd]
  split
  · exact hf
  · exact h v

/-! ### Loads (R37, R38, R165) -/

theorem calibLaw_uncalibrate {s : State} (h : CalibLaw s) : CalibLaw (uncalibrate s) :=
  forVoices_keeps (fun _ _ ht => calibLaw_updCalib ht risingTables_reset) h

theorem calibLaw_probeResult {status : Byte} {s : State} (h : CalibLaw s) : CalibLaw (probeResult status s) := by
  unfold probeResult
  split
  case isFalse => exact h
  case isTrue =>
    split
    case isTrue => exact calibLaw_congr (calibLaw_uncalibrate (calibLaw_congr h (by simp))) (endLoading_calib _)
    case isFalse => exact calibLaw_congr h (by simp)

theorem calibLaw_probeEnds {status : Byte} {s : State} (h : CalibLaw s) : CalibLaw (probeEnds status s) := by
  have idle : CalibLaw (updPins (fun p => { p with mcs := true }) (updMem (fun m => { m with port := .idle }) s)) := h
  exact calibLaw_congr (calibLaw_probeResult (status := status) idle) (by simp [probeEnds])

/-- A valid page brings its tables, and an invalid one the nominal tables (R165). -/
theorem calibLaw_calResult {u : VoiceIdx} {page : Vector Byte 64} {s : State} (h : CalibLaw s) :
    CalibLaw (calResult u page s) := by
  unfold calResult
  split
  case h_1 c valid => exact calibLaw_updCalib h (risingTables_judgeCal valid)
  case h_2 =>
    have nominal : CalibLaw (updCalib u (fun _ => Calib.reset) s) := calibLaw_updCalib h risingTables_reset
    exact calibLaw_congr nominal (by simp)

theorem calibLaw_readResult {e : MemEntry} {page : Vector Byte 64} {s : State} (h : CalibLaw s) :
    CalibLaw (readResult e page s) := by
  unfold readResult
  split
  case isTrue => exact h
  case isFalse =>
    split
    case h_1 => exact calibLaw_congr h (by simp)
    case h_2 => exact calibLaw_calResult h
    case h_3 => exact h
    case h_4 => exact h

theorem calibLaw_readEnds {e : MemEntry} {page : Vector Byte 64} {r : Rival} {s : State} (h : CalibLaw s) :
    CalibLaw (readEnds e page (Rival.effect r) s) :=
  calibLaw_congr (calibLaw_readResult (s := finishOperation s) h) (afterOperation_calib r _)

/-! ### Ends of a tune (R184 to R187) -/

theorem failTune_calib (u : VoiceIdx) (o : TuneOutcome) (d : Byte) (s : State) :
    (failTune u o d s).calib = (updCalib u (Calib.failed o) s).calib := by
  rw [failTune, finishTune_calib]
  rfl

/-- A failed tune keeps the committed tables (R187). -/
theorem calibLaw_failTune {u : VoiceIdx} {o : TuneOutcome} {d : Byte} {s : State} (h : CalibLaw s) :
    CalibLaw (failTune u o d s) := by
  have kept : CalibLaw (updCalib u (Calib.failed o) s) := calibLaw_updCalib h (h u)
  exact calibLaw_congr kept (failTune_calib u o d s)

/-- A successful tune commits the tables it was given (R186). -/
theorem calibLaw_succeedTune {u : VoiceIdx} {t1 t2 : CalTable} {s : State} (h : CalibLaw s) (h1 : increasing t1 = true)
    (h2 : increasing t2 = true) : CalibLaw (succeedTune u t1 t2 s) := by
  have cleared : CalibLaw (clearMeasure u s) := h
  exact calibLaw_congr (calibLaw_updCalib cleared ⟨h1, h2⟩) (finishTune_calib u _ 0 _)

/-- Completed tables are committed only when neither descends (R185). -/
theorem calibLaw_completeTune {u : VoiceIdx} {w : TuneWork} {s : State} (h : CalibLaw s) : CalibLaw (completeTune u w s) := by
  unfold completeTune
  simp only
  split
  case h_1 => exact calibLaw_failTune h
  case h_2 => exact calibLaw_failTune h
  case h_3 rising1 rising2 =>
    exact calibLaw_succeedTune h (increasing_of_firstDescent rising1) (increasing_of_firstDescent rising2)

theorem calibLaw_acceptPass {u : VoiceIdx} {w : TuneWork} {s : State} (h : CalibLaw s) : CalibLaw (acceptPass u w s) := by
  unfold acceptPass
  split
  case isTrue => exact h
  case isFalse =>
    split
    case h_1 => exact h
    case h_2 => exact calibLaw_completeTune h

theorem calibLaw_judgePass {u : VoiceIdx} {w : TuneWork} {e : Int} {s : State} (h : CalibLaw s) :
    CalibLaw (judgePass u w e s) := by
  unfold judgePass
  split
  case isTrue => exact calibLaw_acceptPass h
  case isFalse =>
    split
    case isTrue => exact calibLaw_failTune h
    case isFalse => exact h

theorem calibLaw_failCount {o : TuneOutcome} {s : State} (h : CalibLaw s) : CalibLaw (failCount o s) := by
  unfold failCount
  split
  case h_1 => exact calibLaw_failTune (s := stopCounter s) h
  case h_2 => exact h

theorem calibLaw_countResult {n : Nat} {s : State} (h : CalibLaw s) : CalibLaw (countResult n s) := by
  unfold countResult
  split
  case isTrue => exact calibLaw_failCount h
  case isFalse =>
    split
    case h_1 => exact calibLaw_judgePass (s := stopCounter s) h
    case h_2 => exact h

/-! ### Every step keeps the law (R96) -/

theorem calibLaw_of_calib_reset {s : State} (h : s.calib = State.reset.calib) : CalibLaw s := by
  have reset : CalibLaw State.reset := by
    unfold CalibLaw
    decide
  exact calibLaw_congr reset h

theorem calibLaw_finish {before s : State} (h : CalibLaw s) : CalibLaw (finish before s) :=
  calibLaw_congr h (by simp)

/-- The commands that can change a calibration state give it increasing tables. -/
theorem calibLaw_exec {i : Instr} {s t : State} (h : CalibLaw s) (run : exec i s = .next t) : CalibLaw t := by
  by_cases change : changesCalib i = true
  case neg =>
    obtain ⟨t', run', same⟩ := exec_keepsCalib (Bool.eq_false_iff.mpr change) s
    cases run.symm.trans run'
    exact calibLaw_congr h same
  case pos =>
    cases i with
    | powerOnReset =>
      cases run
      exact calibLaw_of_calib_reset rfl
    | probeComplete =>
      simp only [exec, execProbeComplete] at run
      split at run <;> cases run
      · exact calibLaw_finish (calibLaw_probeEnds h)
      · exact h
    | pageReadComplete =>
      simp only [exec, execPageReadComplete] at run
      split at run <;> cases run
      · exact calibLaw_finish (calibLaw_readEnds h)
      · exact h
    | countEnd =>
      simp only [exec, execCountEnd] at run
      split at run <;> cases run
      · exact calibLaw_finish (calibLaw_countResult h)
      · exact h
    | startLimitExpiry =>
      simp only [exec, execStartLimitExpiry] at run
      split at run <;> cases run
      · exact calibLaw_finish (calibLaw_failCount h)
      · exact h
    | countOverflow =>
      simp only [exec, execCountOverflow] at run
      split at run <;> cases run
      · exact calibLaw_finish (calibLaw_failCount h)
      · exact h
    | _ => cases change

theorem calibLaw_step {s t : State} (h : CalibLaw s) (run : step s = .next t) : CalibLaw t := by
  unfold step at run
  split at run
  case h_1 =>
    cases run
    exact h
  case h_2 c rest _ => exact calibLaw_exec (s := s.withPending rest) h run

/-- Settles O59: the mapping is monotone, and the law of the tables is an invariant of the step. -/
theorem tablesStayIncreasing : Obligations.TablesStayIncreasing :=
  ⟨fun _ _ _ h rises _ => pitchCode_mono h rises, calibLaw_of_calib_reset rfl, fun _ _ => calibLaw_step⟩

end Sys2Proof.PitchArithmetic
end

section
/-!
Panel scanning and knob pickup (07): the end of a knob sample (R125 to R128, R130 to R133), the base value of a parameter knob
(R129), and what a Param, a recall and a morph step make of the parameter knobs (R134, R135).
-/
namespace Sys2Proof.PanelScanning
open Sys2Proof Sys2Proof.Machine Sys2Proof.Safety
open Sys2Proof.ClaimRounds (settled_congr withdraw_queue_offLine withdraw_marks)

/-! ### Loss notices of a knob event: a Knob frame can evict a Hello only (R21, R23) -/

/-- The frame is a Hello. -/
def isHello : Frame → Bool
  | .hello _ _ _ _ => true
  | _ => false

/-- Only Hellos wait as loss notices, and of the entries with a Knob's class or a higher one only Hellos have a loss notice. -/
structure OnlyHellosLost (l : Link) : Prop where
  notices : ∀ f ∈ l.notices, isHello f = true
  queue : ∀ e ∈ l.queue, 8192 ≤ e.field → hasLossNotice e.frame = true → isHello e.frame = true

/-- Class 4 and above hold no Claim, Tune-Begin or Tune-End. -/
theorem isHello_of_cls {f : Frame} (high : 4 ≤ f.cls) (notified : hasLossNotice f = true) : isHello f = true := by
  cases f with
  | hello => rfl
  | claim | tuneBegin | tuneEnd => simp [Frame.cls] at high
  | _ => cases notified

/-- The class of a frame is read off the field of its entry (R9). -/
theorem onlyHellosLost_of_queueLaw {s : State} (h : QueueLaw s) (hn : s.link.notices = []) : OnlyHellosLost s.link := by
  obtain ⟨-, -, -, -, -, -, fields⟩ := h
  refine ⟨by simp [hn], fun e he high => isHello_of_cls ?_⟩
  obtain ⟨rank, sender, field⟩ := fields e he
  rw [field, arbField] at high
  omega

theorem le_arbField {cls : Nat} (rank sender : Nat) (h : 4 ≤ cls) : 8192 ≤ arbField cls rank sender := by
  unfold arbField
  omega

theorem OnlyHellosLost.giveNotice {l : Link} {f : Frame} (h : OnlyHellosLost l)
    (hf : hasLossNotice f = true → isHello f = true) : OnlyHellosLost (giveNotice f l) := by
  unfold Machine.giveNotice
  split
  next loss =>
    refine ⟨fun x hx => ?_, h.queue⟩
    rcases List.mem_append.mp hx with hx | hx
    · exact h.notices x hx
    · rw [List.mem_singleton.mp hx]
      exact hf loss
  next => exact h

theorem OnlyHellosLost.enterFrame {l : Link} {f : Frame} {field : Nat} (h : OnlyHellosLost l)
    (hf : hasLossNotice f = true → isHello f = true) : OnlyHellosLost (enterFrame f field l) := by
  refine ⟨h.notices, fun e he => ?_⟩
  rcases mem_insertEntry.mp he with rfl | he
  · exact fun _ => hf
  · exact h.queue e he

/-- A frame of a Knob's class or a higher one that is notified only as a Hello costs Hellos only. -/
theorem OnlyHellosLost.enterOrEvict {l : Link} {f : Frame} {field : Nat} (h : OnlyHellosLost l) (high : 8192 ≤ field)
    (hf : hasLossNotice f = true → isHello f = true) : OnlyHellosLost (enterOrEvict f field l) := by
  have counted : OnlyHellosLost { l with counters := l.counters.addQueueDrop } := ⟨h.notices, h.queue⟩
  unfold Machine.enterOrEvict
  dsimp only
  split
  · exact h.enterFrame hf
  · split
    next w hw =>
      have mem : w ∈ l.queue := (List.mem_filter.mp (List.mem_of_getLast? hw)).1
      split
      next lower =>
        have rest : OnlyHellosLost { l with counters := l.counters.addQueueDrop, queue := removeOrder w.order l.queue } :=
          ⟨h.notices, fun e he => h.queue e (List.mem_filter.mp he).1⟩
        exact (rest.enterFrame hf).giveNotice (h.queue w mem (by omega))
      next => exact counted.giveNotice hf
    next => exact counted.giveNotice hf

/-- Handing over changes the link only. -/
theorem hand_eq (f : Frame) (s : State) : hand f s = { s with link := (hand f s).link } := by
  unfold hand handRanked
  split
  · split
    · split <;> rfl
    · rfl
  · rfl

/-- The new value of a Knob entry keeps its field and is not notified (R20). -/
theorem OnlyHellosLost.coalesce {l : Link} {k : Byte} {v : BitVec 16} (h : OnlyHellosLost l) :
    OnlyHellosLost { l with queue := l.queue.map (coalesceKnob k v) } := by
  refine ⟨h.notices, fun e he => ?_⟩
  obtain ⟨d, hd, rfl⟩ := List.mem_map.mp he
  have old := h.queue d hd
  unfold coalesceKnob
  split
  · split
    · exact old
    · simp [hasLossNotice]
  · exact old

theorem OnlyHellosLost.handKnob {i : Fin 32} {v : Nat} {s : State} (h : OnlyHellosLost s.link) :
    OnlyHellosLost (handKnob i v s).link := by
  unfold Machine.handKnob hand handRanked
  split
  · dsimp only
    split
    · exact h.coalesce
    · exact h.enterOrEvict (le_arbField _ _ (Nat.le_refl 4)) (by simp [hasLossNotice])
  · exact h

theorem OnlyHellosLost.handHello {s : State} (h : OnlyHellosLost s.link) :
    OnlyHellosLost (hand (helloFrame s) s).link := by
  unfold hand handRanked helloFrame
  split
  · exact h.enterOrEvict (le_arbField _ _ (by simp [Frame.cls])) (by simp [isHello])
  · exact h

/-- The notice of a Hello changes the link only, and costs no other notified frame. -/
theorem noticed_hello {f : Frame} {s : State} (hf : isHello f = true) (h : OnlyHellosLost s.link) :
    OnlyHellosLost (noticed f s).link ∧ noticed f s = { s with link := (noticed f s).link } := by
  cases f with
  | hello =>
    unfold noticed
    dsimp only
    split
    · exact ⟨h.handHello, hand_eq _ _⟩
    · exact ⟨h, rfl⟩
  | _ => cases hf

theorem settle_hellos {n : Nat} {s : State} (h : OnlyHellosLost s.link) :
    ∃ l, OnlyHellosLost l ∧ settle n s = { s with link := l } := by
  induction n generalizing s with
  | zero => exact ⟨{ s.link with notices := [] }, ⟨fun _ hf => absurd hf List.not_mem_nil, h.queue⟩, rfl⟩
  | succ n ih =>
    unfold settle
    split
    · exact ⟨_, h, rfl⟩
    next f rest hn =>
      have rest_hellos : OnlyHellosLost (updLink (fun l => { l with notices := rest }) s).link :=
        ⟨fun x hx => h.notices x (hn ▸ List.mem_cons_of_mem f hx), h.queue⟩
      obtain ⟨hellos, link⟩ := noticed_hello (h.notices f (hn ▸ List.mem_cons_self)) rest_hellos
      obtain ⟨l, hl, settled⟩ := ih hellos
      exact ⟨l, hl, by rw [settled, link]; rfl⟩

/-- After settling no notice waits. -/
theorem settle_notices (n : Nat) (s : State) : (settle n s).link.notices = [] := by
  induction n generalizing s with
  | zero => rfl
  | succ n ih =>
    unfold settle
    split
    next h => exact h
    next => exact ih _

/-- The end of an event that has cost Hellos only, in a station at rest otherwise, changes the link only. -/
theorem finish_hellos {before s t : State} (hs : Settled s) (h : OnlyHellosLost t.link) (ht : t.tune = s.tune)
    (hp : t.sched = s.sched) (hl : t.slots = s.slots) :
    ∃ l, OnlyHellosLost l ∧ finish before t = { t with link := l } := by
  obtain ⟨l, hellos, settled⟩ := settle_hellos (n := noticeBound) h
  have rest : Settled (settle noticeBound t) := by
    have quiet := settle_notices noticeBound t
    rw [settled] at quiet ⊢
    exact settled_congr (s := { s with link := l }) ⟨quiet, hs.2⟩ rfl ht hp hl
  refine ⟨l, hellos, ?_⟩
  rw [← settled, ← finish_settled (before := before) rest]
  unfold finish
  dsimp only
  rw [settle_none rest.1]

/-! ### What a sample can change -/

theorem updAt_self {α : Type} {n : Nat} (v : Vector α n) (i : Fin n) : updAt v i (fun _ => v[i]) = v := by
  simp [updAt]

theorem updAt_updAt {α : Type} {n : Nat} (v : Vector α n) (i : Fin n) (f g : α → α) :
    updAt (updAt v i f) i g = updAt v i fun x => g (f x) := by
  simp [updAt]

/-- From s to t at most the link and the record of knob i change, and where only Hellos could be lost that stays so. -/
structure KnobEffect (i : Fin 32) (s t : State) : Prop where
  changes : ∃ (l : Link) (k : Knob), t = { updKnob i (fun _ => k) s with link := l }
  losses : OnlyHellosLost s.link → OnlyHellosLost t.link

namespace KnobEffect
variable {i : Fin 32} {s t u : State}

theorem refl : KnobEffect i s s :=
  ⟨⟨s.link, s.panel.knobs[i], by simp only [updKnob, updAt_self]⟩, id⟩

theorem trans (h : KnobEffect i s t) (g : KnobEffect i t u) : KnobEffect i s u := by
  obtain ⟨⟨l, k, rfl⟩, hl⟩ := h
  obtain ⟨⟨m, j, rfl⟩, gl⟩ := g
  exact ⟨⟨m, j, by simp only [updKnob, updAt_updAt]⟩, gl ∘ hl⟩

theorem updKnob (f : Knob → Knob) : KnobEffect i s (updKnob i f s) := ⟨⟨s.link, f s.panel.knobs[i], rfl⟩, id⟩

theorem link {l : Link} (h : OnlyHellosLost s.link → OnlyHellosLost l) : KnobEffect i s { s with link := l } :=
  ⟨⟨l, s.panel.knobs[i], by simp only [Machine.updKnob, updAt_self]⟩, h⟩

theorem handKnob (v : Nat) : KnobEffect i s (handKnob i v s) := by
  rw [Machine.handKnob, hand_eq]
  exact link OnlyHellosLost.handKnob

theorem setPickup (p : Pickup) : KnobEffect i s (setPickup i p s) := updKnob _

theorem paramKnobMoved (p : Fin 16) (q0 q : Nat) : KnobEffect i s (paramKnobMoved i p q0 q s) := by
  unfold Machine.paramKnobMoved
  dsimp only
  split
  · exact handKnob q
  · exact handKnob q
  · split
    · exact (setPickup .caught).trans (handKnob q)
    · exact refl
  · split
    · exact (setPickup .caught).trans (handKnob q)
    · exact refl
  · exact (handKnob _).trans (setPickup _)

theorem knobMoved (q0 q : Nat) : KnobEffect i s (knobMoved i q0 q s) := by
  unfold Machine.knobMoved
  split
  · exact paramKnobMoved _ q0 q
  · exact handKnob q

theorem laterReading (avg r : Nat) : KnobEffect i s (laterReading i avg r s) := by
  unfold Machine.laterReading
  dsimp only
  split
  · split
    · exact updKnob _
    · exact (updKnob _).trans (knobMoved _ _)
  · exact refl

theorem otherKnobs (h : KnobEffect i s t) {j : Fin 32} (hj : j ≠ i) : t.panel.knobs[j] = s.panel.knobs[j] := by
  obtain ⟨⟨l, k, rfl⟩, -⟩ := h
  exact updAt_other _ _ _ _ hj

/-- Besides the knob records and the link a sample leaves everything as it is. -/
theorem keeps (h : KnobEffect i s t) :
    t.panel = { s.panel with knobs := t.panel.knobs } ∧ t.now = s.now ∧ t.pins = s.pins ∧ t.start = s.start ∧
      t.live = s.live ∧ t.voices = s.voices ∧ t.gates = s.gates ∧ t.mem = s.mem ∧ t.eeprom = s.eeprom ∧ t.tune = s.tune ∧
      t.sched = s.sched ∧ t.slots = s.slots := by
  obtain ⟨⟨l, k, rfl⟩, -⟩ := h
  exact ⟨rfl, rfl, rfl, rfl, rfl, rfl, rfl, rfl, rfl, rfl, rfl, rfl⟩

/-- With no loss notice left by the sample, the end of the event adds nothing. -/
theorem finish_eq {before : State} (h : KnobEffect i s t) (hs : Settled s) (hn : t.link.notices = []) : finish before t = t := by
  obtain ⟨-, -, -, -, -, -, -, -, -, tune, sched, slots⟩ := h.keeps
  exact finish_settled (settled_congr hs (hn.trans hs.1.symm) tune sched slots)

/-- Whatever the sample has evicted, the end of the event changes at most the link. -/
theorem finish {before : State} (h : KnobEffect i s t) (hs : Settled s) (hq : OnlyHellosLost s.link) :
    KnobEffect i s (finish before t) := by
  obtain ⟨-, -, -, -, -, -, -, -, -, tune, sched, slots⟩ := h.keeps
  obtain ⟨l, hellos, ends⟩ := finish_hellos (before := before) hs (h.losses hq) tune sched slots
  rw [ends]
  exact h.trans (link fun _ => hellos)

end KnobEffect

/-! ### The record of the sampled knob -/

/-- The ring after a sample: the last four (R126). -/
def ringAfter (ring : List (BitVec 12)) (x : BitVec 12) : List (BitVec 12) :=
  (if ring.length < 4 then ring else ring.drop 1) ++ [x]

/-- The average of the ring after a sample of knob i (R126). -/
def averageAfter (i : Fin 32) (x : BitVec 12) (s : State) : Nat := ringAverage (ringAfter s.panel.knobs[i].ring x)

/-- Knob i with the sample in its ring. -/
def ringed (i : Fin 32) (x : BitVec 12) (s : State) : State :=
  updKnob i (fun k => { k with ring := ringAfter s.panel.knobs[i].ring x }) s

@[simp] theorem ringed_knob (i : Fin 32) (x : BitVec 12) (s : State) :
    (ringed i x s).panel.knobs[i] = { s.panel.knobs[i] with ring := ringAfter s.panel.knobs[i].ring x } :=
  updAt_same _ _ _

section
variable {i : Fin 32} {x : BitVec 12} {s : State}

theorem knobSample_filling (h : (ringAfter s.panel.knobs[i].ring x).length < 4) : knobSample i x s = ringed i x s := if_pos h

theorem knobSample_first (h : ¬ (ringAfter s.panel.knobs[i].ring x).length < 4) (hr : s.panel.knobs[i].reading = none) :
    knobSample i x s = firstReading i (averageAfter i x s) (ringed i x s) := by
  refine (if_neg h).trans ?_
  have same : (ringed i x s).panel.knobs[i].reading = none := by rw [ringed_knob, hr]
  change (match (ringed i x s).panel.knobs[i].reading with | none => _ | some r => _) = _
  rw [same]
  rfl

theorem knobSample_later {r : Nat} (h : ¬ (ringAfter s.panel.knobs[i].ring x).length < 4)
    (hr : s.panel.knobs[i].reading = some r) :
    knobSample i x s = laterReading i (averageAfter i x s) r (ringed i x s) := by
  refine (if_neg h).trans ?_
  have same : (ringed i x s).panel.knobs[i].reading = some r := by rw [ringed_knob, hr]
  change (match (ringed i x s).panel.knobs[i].reading with | none => _ | some r => _) = _
  rw [same]
  rfl

theorem KnobEffect.knobSample : KnobEffect i s (knobSample i x s) := by
  by_cases h : (ringAfter s.panel.knobs[i].ring x).length < 4
  · rw [knobSample_filling h]
    exact .updKnob _
  · cases hr : s.panel.knobs[i].reading with
    | none =>
      rw [knobSample_first h hr]
      exact (KnobEffect.updKnob _).trans (.updKnob _)
    | some r =>
      rw [knobSample_later h hr]
      exact (KnobEffect.updKnob _).trans (.laterReading _ _)

end

/-! ### Handing over a Knob frame (R19, R20) -/

theorem handKnob_panel (i : Fin 32) (v : Nat) (s : State) : (handKnob i v s).panel = s.panel := by simp [handKnob]

theorem enterOrEvict_room {f : Frame} {field : Nat} {l : Link} (h : l.queue.length < 16) :
    enterOrEvict f field l = enterFrame f field l := if_pos h

/-- A new entry, where there is none for the knob and the queue has room (R19). -/
theorem handKnob_room {i : Fin 32} {v : Nat} {s : State} (ht : txEnabled s = true)
    (fresh : ∀ e ∈ s.link.queue, isKnobFor (byteOf (knobNumber s i)) e = false) (room : s.link.queue.length < 16) :
    (handKnob i v s).link = enterFrame (.knob (byteOf (knobNumber s i)) (BitVec.ofNat 16 v))
      (8192 + (byteOf (knobNumber s i)).toNat * 8 + (stationId s).val) s.link := by
  have absent : ¬ s.link.queue.any (isKnobFor (byteOf (knobNumber s i))) = true := by simpa using fresh
  have field : arbField (Frame.knob (byteOf (knobNumber s i)) (BitVec.ofNat 16 v)).cls
      (rankOf (.knob (byteOf (knobNumber s i)) (BitVec.ofNat 16 v))) (stationId s).val =
      8192 + (byteOf (knobNumber s i)).toNat * 8 + (stationId s).val := by
    simp only [arbField, Frame.cls, rankOf]
  unfold handKnob hand handRanked
  rw [if_pos ht]
  dsimp only
  rw [if_neg absent]
  dsimp only
  rw [enterOrEvict_room room, field]

/-- The new value of the entry that there is (R20). -/
theorem handKnob_coalesces {i : Fin 32} {v : Nat} {s : State} (ht : txEnabled s = true)
    (queued : ∃ e ∈ s.link.queue, isKnobFor (byteOf (knobNumber s i)) e = true) :
    (handKnob i v s).link =
      { s.link with queue := s.link.queue.map (coalesceKnob (byteOf (knobNumber s i)) (BitVec.ofNat 16 v)) } := by
  have present : s.link.queue.any (isKnobFor (byteOf (knobNumber s i))) = true := List.any_eq_true.mpr queued
  unfold handKnob hand handRanked
  rw [if_pos ht]
  dsimp only
  rw [if_pos present]

/-- Where the frame is entered or coalesced, nothing is lost, and the end of the event adds nothing (R19, R20). -/
theorem knobHanded_finish {i : Fin 32} {v : Nat} {s t u before : State} (hs : Settled s) (effect : KnobEffect i s u)
    (hl : t.link = s.link) (ht : t.start = s.start) (hu : u.link = (handKnob i v t).link) (tx : txEnabled s = true) :
    KnobHanded s (finish before u) (byteOf (knobNumber s i)) v := by
  have ends : ∀ l, (handKnob i v t).link = l → l.notices = [] → (finish before u).link = l := fun l hand quiet => by
    rw [effect.finish_eq hs (by rw [hu, hand, quiet]), hu, hand]
  have txt : txEnabled t = true := by rwa [txEnabled, ht]
  have station : stationId t = stationId s := by rw [stationId, ht, stationId]
  have number : knobNumber t i = knobNumber s i := by rw [knobNumber, station, knobNumber]
  refine ⟨fun fresh room => ends _ ?_ hs.1, fun queued => ends _ ?_ hs.1⟩
  · rw [← number, ← station, ← hl]
    exact handKnob_room txt (by rwa [number, hl]) (by rwa [hl])
  · rw [← hl, ← number]
    exact handKnob_coalesces txt (by rwa [number, hl])

/-! ### The dead band and the change of position (R128) -/

theorem takesAverage_iff (avg r : Nat) : takesAverage avg r = true ↔
    6 ≤ ((avg : Int) - r).natAbs ∨ (avg = 0 ∧ r ≠ 0) ∨ (avg = 4095 ∧ r ≠ 4095) := by
  simp [takesAverage, or_assoc]

/-- Knob i with the sample in its ring and the average reported. -/
def reported (i : Fin 32) (x : BitVec 12) (s : State) : State :=
  updKnob i (fun k => { k with reading := some (averageAfter i x s) }) (ringed i x s)

@[simp] theorem reported_knob (i : Fin 32) (x : BitVec 12) (s : State) :
    (reported i x s).panel.knobs[i] =
      ⟨ringAfter s.panel.knobs[i].ring x, some (averageAfter i x s), s.panel.knobs[i].pickup⟩ := by
  rw [reported, updKnob_panel, updAt_same, ringed_knob]

section
variable {i : Fin 32} {x : BitVec 12} {s : State} {r : Nat}

theorem laterReading_stays {avg : Nat} (h : ¬ takesAverage avg r = true) : laterReading i avg r s = s := if_neg h

theorem laterReading_samePosition {avg : Nat} (h : takesAverage avg r = true) (hq : positionOf avg = positionOf r) :
    laterReading i avg r s = updKnob i (fun k => { k with reading := some avg }) s :=
  (if_pos h).trans (if_pos hq)

theorem laterReading_moves {avg : Nat} (h : takesAverage avg r = true) (hq : positionOf avg ≠ positionOf r) :
    laterReading i avg r s =
      knobMoved i (positionOf r) (positionOf avg) (updKnob i (fun k => { k with reading := some avg }) s) :=
  (if_pos h).trans (if_neg hq)

end

/-! ### The pickup modes (R127, R130 to R132) -/

theorem pickupFor_eq (mode : PickupMode) (q v : Nat) : pickupFor mode q v = pickupAt mode q v := by
  cases mode <;> rfl

theorem paramOfKnob_of_lt {s : State} {i : Fin 32} {p : Fin 16} (h : knobNumber s i = p.val) : paramOfKnob s i = some p := by
  simp [paramOfKnob, h]

theorem paramOfKnob_of_ge {s : State} {i : Fin 32} (h : 16 ≤ knobNumber s i) : paramOfKnob s i = none :=
  dif_neg (Nat.not_lt.mpr h)

theorem baseValue_congr {p : Fin 16} {s t : State} (hl : t.link = s.link) (hv : t.live = s.live) : baseValue p t = baseValue p s := by
  unfold baseValue queuedKnob
  rw [hl, hv]

section
variable {i : Fin 32} {p : Fin 16} {q0 q : Nat} {s : State}

/-- In JUMP, and for a caught knob, the position is queued (R130). -/
theorem paramKnobMoved_follows (h : s.start.pickup = .jump ∨ s.panel.knobs[i].pickup = some .caught) :
    paramKnobMoved i p q0 q s = handKnob i q s := by
  unfold paramKnobMoved
  dsimp only
  rcases h with h | h <;> rw [h]
  cases s.start.pickup <;> rfl

theorem paramKnobMoved_catchUp (hm : s.start.pickup = .catch) (h : s.panel.knobs[i].pickup = some .waitUp) :
    paramKnobMoved i p q0 q s = if baseValue p s ≤ q then handKnob i q (setPickup i .caught s) else s := by
  unfold paramKnobMoved
  rw [hm, h]
  rfl

theorem paramKnobMoved_catchDown (hm : s.start.pickup = .catch) (h : s.panel.knobs[i].pickup = some .waitDown) :
    paramKnobMoved i p q0 q s = if q ≤ baseValue p s then handKnob i q (setPickup i .caught s) else s := by
  unfold paramKnobMoved
  rw [hm, h]
  rfl

theorem paramKnobMoved_relative {was : Pickup} (hm : s.start.pickup = .relative) (h : s.panel.knobs[i].pickup = some was)
    (waits : was ≠ .caught) :
    paramKnobMoved i p q0 q s = setPickup i (pickupAfter was q (relativeValue q0 q (baseValue p s)))
      (handKnob i (relativeValue q0 q (baseValue p s)) s) := by
  unfold paramKnobMoved
  rw [hm, h]
  cases was
  case caught => exact absurd rfl waits
  all_goals rfl

end

/-- R132: caught at the value or past it, else waiting on its side of the value. -/
theorem pickupAfter_eq {was : Pickup} (q v : Nat) (waits : was ≠ .caught) : pickupAfter was q v =
    if v = q ∨ (some was = some .waitUp ∧ v < q) ∨ (some was = some .waitDown ∧ q < v) then .caught
      else if q < v then .waitUp else .waitDown := by
  unfold pickupAfter pickupAgainst
  cases was
  case caught => exact absurd rfl waits
  all_goals
    rcases Nat.lt_trichotomy q v with h | rfl | h
    · simp [h, Nat.ne_of_gt h, Nat.not_lt.mpr (Nat.le_of_lt h)]
    · simp
    · simp [h, Nat.ne_of_lt h, Nat.not_lt.mpr (Nat.le_of_lt h)]

/-! ### The end of a sample (R125 to R128) -/

theorem finish_knob (before t : State) (i : Fin 32) : (finish before t).panel.knobs[i] = t.panel.knobs[i] := by
  have panel : (finish before t).panel = t.panel := by simp
  rw [panel]

/-- The fourth sample of a knob without a parameter: caught (R127). -/
theorem firstReading_plain {i : Fin 32} {avg : Nat} {s : State} (h : 16 ≤ knobNumber s i) :
    (firstReading i avg s).panel.knobs[i].pickup = some .caught := by
  unfold firstReading
  rw [paramOfKnob_of_ge h, updKnob_panel, updAt_same]

/-- The fourth sample of a parameter knob: the position against the base value, by the mode (R127). -/
theorem firstReading_param {i : Fin 32} {p : Fin 16} {avg : Nat} {s : State} (h : knobNumber s i = p.val) :
    (firstReading i avg s).panel.knobs[i].pickup = some (pickupAt s.start.pickup (avg / 4) (baseValue p s)) := by
  unfold firstReading
  rw [paramOfKnob_of_lt h, updKnob_panel, updAt_same]
  dsimp only
  rw [pickupFor_eq, positionOf]

theorem firstReading_knob (i : Fin 32) (avg : Nat) (s : State) :
    (firstReading i avg s).panel.knobs[i].ring = s.panel.knobs[i].ring ∧
      (firstReading i avg s).panel.knobs[i].reading = some avg := by
  unfold firstReading
  rw [updKnob_panel, updAt_same]
  exact ⟨rfl, rfl⟩

@[simp] theorem setPickup_knob (i : Fin 32) (pick : Pickup) (s : State) :
    (setPickup i pick s).panel.knobs[i] = { s.panel.knobs[i] with pickup := some pick } :=
  updAt_same _ _ _

/-- A change of position changes the pickup state of the record only. -/
theorem knobMoved_knob (i : Fin 32) (q0 q : Nat) (s : State) :
    ∃ pick, (knobMoved i q0 q s).panel.knobs[i] = { s.panel.knobs[i] with pickup := pick } := by
  have handed : ∀ v, (handKnob i v s).panel.knobs[i] = { s.panel.knobs[i] with pickup := s.panel.knobs[i].pickup } := fun v => by
    rw [handKnob_panel]
  have caught : ∀ v, (handKnob i v (setPickup i .caught s)).panel.knobs[i] =
      { s.panel.knobs[i] with pickup := some .caught } := fun v => by
    rw [handKnob_panel, setPickup_knob]
  unfold knobMoved paramKnobMoved
  dsimp only
  split
  · split
    · exact ⟨_, handed _⟩
    · exact ⟨_, handed _⟩
    · split
      · exact ⟨_, caught _⟩
      · exact ⟨_, rfl⟩
    · split
      · exact ⟨_, caught _⟩
      · exact ⟨_, rfl⟩
    · exact ⟨_, (setPickup_knob _ _ _).trans (by rw [handKnob_panel])⟩
  · exact ⟨_, handed _⟩

section
variable {s before : State} {i : Fin 32} {x : BitVec 12}

/-- Up to the fourth sample the ring fills (R127). -/
theorem finish_filling (hs : Settled s) (h : (ringAfter s.panel.knobs[i].ring x).length < 4) :
    finish before (knobSample i x s) = ringed i x s := by
  rw [knobSample_filling h]
  exact (KnobEffect.updKnob _).finish_eq hs hs.1

/-- The fourth sample gives the reading and the pickup state (R127). -/
theorem finish_first (hs : Settled s) (h : ¬ (ringAfter s.panel.knobs[i].ring x).length < 4)
    (hr : s.panel.knobs[i].reading = none) :
    finish before (knobSample i x s) =
      firstReading i (averageAfter i x s) (ringed i x s) := by
  have effect : KnobEffect i s (knobSample i x s) := .knobSample
  rw [knobSample_first h hr] at effect ⊢
  exact effect.finish_eq hs hs.1

end

section
variable {s : State} {i : Fin 32} {x : BitVec 12} {r : Nat}
  (full : ¬ (ringAfter s.panel.knobs[i].ring x).length < 4) (hr : s.panel.knobs[i].reading = some r)
  (h : takesAverage (averageAfter i x s) r = true)
  (hq : positionOf (averageAfter i x s) ≠ positionOf r)
include full hr h hq

/-- A new position moves the knob on (R128, R130 to R133). -/
theorem knobSample_moves : knobSample i x s =
    knobMoved i (positionOf r) (positionOf (averageAfter i x s)) (reported i x s) := by
  rw [knobSample_later full hr, laterReading_moves h hq]
  rfl

theorem knobSample_moves_plain (hn : 16 ≤ knobNumber s i) : knobSample i x s =
    handKnob i (positionOf (averageAfter i x s)) (reported i x s) := by
  have plain : paramOfKnob (reported i x s) i = none := paramOfKnob_of_ge hn
  rw [knobSample_moves full hr h hq, knobMoved, plain]

theorem knobSample_moves_param {p : Fin 16} (hn : knobNumber s i = p.val) : knobSample i x s =
    paramKnobMoved i p (positionOf r) (positionOf (averageAfter i x s)) (reported i x s) := by
  have param : paramOfKnob (reported i x s) i = some p := paramOfKnob_of_lt hn
  rw [knobSample_moves full hr h hq, knobMoved, param]

end

/-- A new reading is the average, whatever becomes of the pickup state (R128). -/
theorem knobSample_record {s : State} {i : Fin 32} {x : BitVec 12} {r : Nat}
    (full : ¬ (ringAfter s.panel.knobs[i].ring x).length < 4) (hr : s.panel.knobs[i].reading = some r)
    (h : takesAverage (averageAfter i x s) r = true) :
    ∃ pick, (knobSample i x s).panel.knobs[i] = ⟨ringAfter s.panel.knobs[i].ring x, some (averageAfter i x s), pick⟩ := by
  by_cases hq : positionOf (averageAfter i x s) = positionOf r
  · rw [knobSample_later full hr, laterReading_samePosition h hq]
    exact ⟨_, reported_knob i x s⟩
  · obtain ⟨pick, record⟩ := knobMoved_knob i (positionOf r) (positionOf (averageAfter i x s)) (reported i x s)
    rw [knobSample_moves full hr h hq, record, reported_knob]
    exact ⟨pick, rfl⟩

/-- The ring after a sample, whatever else the sample does (R126). -/
theorem knobSample_ring (i : Fin 32) (x : BitVec 12) (s : State) :
    (knobSample i x s).panel.knobs[i].ring = ringAfter s.panel.knobs[i].ring x := by
  by_cases full : (ringAfter s.panel.knobs[i].ring x).length < 4
  · rw [knobSample_filling full, ringed_knob]
  cases hr : s.panel.knobs[i].reading with
  | none => rw [knobSample_first full hr, (firstReading_knob _ _ _).1, ringed_knob]
  | some r =>
    by_cases h : takesAverage (averageAfter i x s) r = true
    · obtain ⟨pick, record⟩ := knobSample_record full hr h
      rw [record]
    · rw [knobSample_later full hr, laterReading_stays h, ringed_knob]

section
variable {s before : State} {i : Fin 32} {x : BitVec 12} {q0 q : Nat} {p : Fin 16}

/-- A sample that reports the reading and no more queues nothing. -/
theorem finish_reports (hs : Settled s) (sample : knobSample i x s = reported i x s) :
    finish before (knobSample i x s) = reported i x s := by
  rw [KnobEffect.knobSample.finish_eq hs (by rw [sample]; exact hs.1), sample]

variable (hs : Settled s) (tx : txEnabled s = true)
include hs tx

/-- The end of an event whose sample has handed over the value v and left the pickup state `pick`. -/
theorem finish_hands {v : Nat} {t : State} {pick : Option Pickup} (hl : t.link = s.link) (ht : t.start = s.start)
    (hu : (knobSample i x s).link = (handKnob i v t).link) (hp : (knobSample i x s).panel.knobs[i].pickup = pick) :
    KnobHanded s (finish before (knobSample i x s)) (byteOf (knobNumber s i)) v ∧
      (finish before (knobSample i x s)).panel.knobs[i].pickup = pick :=
  ⟨knobHanded_finish hs .knobSample hl ht hu tx, by rw [finish_knob, hp]⟩

/-- The position queued, the pickup state kept (R130, R133). -/
theorem finish_follows (sample : knobSample i x s = handKnob i q (reported i x s)) :
    KnobHanded s (finish before (knobSample i x s)) (byteOf (knobNumber s i)) q ∧
      (finish before (knobSample i x s)).panel.knobs[i].pickup = s.panel.knobs[i].pickup := by
  refine finish_hands (t := reported i x s) hs tx rfl rfl (congrArg State.link sample) ?_
  rw [sample, handKnob_panel, reported_knob]

/-- The position queued, and the knob caught (R131). -/
theorem finish_catches (sample : knobSample i x s = handKnob i q (setPickup i .caught (reported i x s))) :
    KnobHanded s (finish before (knobSample i x s)) (byteOf (knobNumber s i)) q ∧
      (finish before (knobSample i x s)).panel.knobs[i].pickup = some .caught := by
  refine finish_hands (t := setPickup i .caught (reported i x s)) hs tx rfl rfl (congrArg State.link sample) ?_
  rw [sample, handKnob_panel, setPickup_knob]

/-- In RELATIVE the value v′ queued, and the pickup state set from it (R132). -/
theorem finish_relative {was : Pickup} (sample : knobSample i x s = paramKnobMoved i p q0 q (reported i x s))
    (hm : s.start.pickup = .relative) (hw : s.panel.knobs[i].pickup = some was) (waits : was ≠ .caught) :
    KnobHanded s (finish before (knobSample i x s)) (byteOf (knobNumber s i)) (relativeValue q0 q (baseValue p s)) ∧
      (finish before (knobSample i x s)).panel.knobs[i].pickup =
        some (pickupAfter was q (relativeValue q0 q (baseValue p s))) := by
  have base : baseValue p (reported i x s) = baseValue p s := baseValue_congr rfl rfl
  rw [paramKnobMoved_relative (s := reported i x s) hm (by rwa [reported_knob]) waits, base] at sample
  refine finish_hands (t := reported i x s) hs tx rfl rfl (by rw [sample]; rfl) ?_
  rw [sample, setPickup_knob]

end

/-- The position of the sampled knob of parameter p has moved from q0 to q: what is queued, and the pickup state, by the mode (R130 to
R132). -/
theorem finish_paramKnob {s before : State} {i : Fin 32} {x : BitVec 12} {q0 q : Nat} {p : Fin 16} (hs : Settled s)
    (tx : txEnabled s = true) (sample : knobSample i x s = paramKnobMoved i p q0 q (reported i x s)) :
    let t := finish before (knobSample i x s)
    let mode := s.start.pickup
    let was := s.panel.knobs[i].pickup
    let v := baseValue p s
    let v' := relativeValue q0 q v
    let k := byteOf (knobNumber s i)
    (mode = .jump ∨ was = some .caught → KnobHanded s t k q ∧ t.panel.knobs[i].pickup = was) ∧
    (mode = .catch → was = some .waitUp → v ≤ q → KnobHanded s t k q ∧ t.panel.knobs[i].pickup = some .caught) ∧
    (mode = .catch → was = some .waitUp → q < v → t.link = s.link ∧ t.panel.knobs[i].pickup = was) ∧
    (mode = .catch → was = some .waitDown → q ≤ v → KnobHanded s t k q ∧ t.panel.knobs[i].pickup = some .caught) ∧
    (mode = .catch → was = some .waitDown → v < q → t.link = s.link ∧ t.panel.knobs[i].pickup = was) ∧
    (mode = .relative → was = some .waitUp ∨ was = some .waitDown →
      KnobHanded s t k v' ∧ t.panel.knobs[i].pickup = some (
        if v' = q ∨ (was = some .waitUp ∧ v' < q) ∨ (was = some .waitDown ∧ q < v') then .caught
        else if q < v' then .waitUp else .waitDown)) := by
  intro t mode was v v' k
  have base : baseValue p (reported i x s) = v := baseValue_congr rfl rfl
  have record : (reported i x s).panel.knobs[i].pickup = was := by rw [reported_knob]
  have waits : knobSample i x s = reported i x s → t.link = s.link ∧ t.panel.knobs[i].pickup = was := fun reports => by
    have ends : t = reported i x s := finish_reports hs reports
    exact ⟨by rw [ends]; rfl, by rw [ends, record]⟩
  refine ⟨fun follows => ?_, fun hm hw reaches => ?_, fun hm hw below => ?_, fun hm hw reaches => ?_, fun hm hw above => ?_,
    fun hm hw => ?_⟩
  · rw [paramKnobMoved_follows (by rwa [record])] at sample
    exact finish_follows hs tx sample
  · rw [paramKnobMoved_catchUp (s := reported i x s) hm (record.trans hw), base, if_pos reaches] at sample
    exact finish_catches hs tx sample
  · rw [paramKnobMoved_catchUp (s := reported i x s) hm (record.trans hw), base, if_neg (Nat.not_le.mpr below)] at sample
    exact waits sample
  · rw [paramKnobMoved_catchDown (s := reported i x s) hm (record.trans hw), base, if_pos reaches] at sample
    exact finish_catches hs tx sample
  · rw [paramKnobMoved_catchDown (s := reported i x s) hm (record.trans hw), base, if_neg (Nat.not_le.mpr above)] at sample
    exact waits sample
  · obtain ⟨k, hk, caught⟩ : ∃ k, was = some k ∧ k ≠ .caught := by
      rcases hw with hw | hw <;> exact ⟨_, hw, by decide⟩
    have ends := finish_relative (before := before) hs tx sample hm hk caught
    rw [pickupAfter_eq _ _ caught, ← hk] at ends
    exact ends

/-- The fourth sample: the reading, no frame, and the pickup state (R127). -/
theorem finish_firstReading {s before : State} {i : Fin 32} {x : BitVec 12} (hs : Settled s)
    (full : ¬ (ringAfter s.panel.knobs[i].ring x).length < 4) (hr : s.panel.knobs[i].reading = none) :
    let t := finish before (knobSample i x s)
    let avg := averageAfter i x s
    t.panel.knobs[i].reading = some avg ∧ t.link = s.link ∧
    (16 ≤ knobNumber s i → t.panel.knobs[i].pickup = some .caught) ∧
    (∀ p : Fin 16, knobNumber s i = p.val →
      t.panel.knobs[i].pickup = some (pickupAt s.start.pickup (avg / 4) (baseValue p s))) := by
  intro t avg
  have ends : t = firstReading i avg (ringed i x s) := finish_first hs full hr
  rw [ends]
  exact ⟨(firstReading_knob _ _ _).2, rfl, fun hn => firstReading_plain hn,
    fun p hn => firstReading_param (s := ringed i x s) hn⟩

/-- A sample of a knob with reading r: the dead band and the reading (R128). -/
theorem finish_later {s before : State} {i : Fin 32} {x : BitVec 12} {r : Nat} (hs : Settled s)
    (full : ¬ (ringAfter s.panel.knobs[i].ring x).length < 4) (hr : s.panel.knobs[i].reading = some r) :
    let t := finish before (knobSample i x s)
    let avg := averageAfter i x s
    let takes := takesAverage avg r = true
    (takes → t.panel.knobs[i].reading = some avg) ∧
    (¬ takes → t.panel.knobs[i].reading = some r) ∧
    (¬ takes ∨ positionOf avg = positionOf r → t.link = s.link ∧ t.panel.knobs[i].pickup = s.panel.knobs[i].pickup) := by
  intro t avg takes
  have stays : ¬ takes → t = ringed i x s := fun no => by
    have sample := (knobSample_later full hr).trans (laterReading_stays no)
    exact (KnobEffect.knobSample.finish_eq hs (by rw [sample]; exact hs.1)).trans sample
  refine ⟨fun yes => ?_, fun no => by rw [stays no, ringed_knob, hr], fun quiet => ?_⟩
  · obtain ⟨pick, record⟩ := knobSample_record full hr yes
    rw [finish_knob, record]
  by_cases yes : takes
  · have sample := (knobSample_later full hr).trans
      (laterReading_samePosition yes (quiet.resolve_left (not_not_intro yes)))
    have ends : t = reported i x s := finish_reports hs sample
    exact ⟨by rw [ends]; rfl, by rw [ends, reported_knob]⟩
  · exact ⟨by rw [stays yes]; rfl, by rw [stays yes, ringed_knob]⟩

theorem exec_knobSampleEnd {s : State} {i : Fin 32} (x : BitVec 12) (running : s.panel.running = true)
    (sample : s.panel.sample = some i) : exec (.knobSampleEnd x) s =
      .next (finish s (knobSample i x (nextSample i (advanceTo s.panel.sampleEnd s)))) := by
  simp only [exec, execKnobSampleEnd, running, sample]

/-- The state with a further sample selected (R125). -/
def selected (next : Option (Fin 32)) (ends : Nat) (ksel : BitVec 4) (s : State) : State :=
  { s with panel := { s.panel with sample := next, sampleEnd := ends }, pins := { s.pins with ksel := ksel } }

/-- After sample i the next knob is selected, or none after knob 31 (R125). -/
theorem nextSample_eq (i : Fin 32) (s : State) : ∃ (next : Option (Fin 32)) (ends : Nat) (ksel : BitVec 4),
    nextSample i s = selected next ends ksel s ∧
    (i.val < 31 → next.map Fin.val = some (i.val + 1) ∧ ends = s.panel.sampleEnd + 30 ∧ ksel = BitVec.ofNat 4 (i.val + 1)) ∧
    (i.val = 31 → next = none ∧ ksel = s.pins.ksel) := by
  by_cases h : i.val + 1 < 32
  · exact ⟨_, _, _, dif_pos h, fun _ => ⟨rfl, rfl, rfl⟩, fun last => absurd h (by omega)⟩
  · exact ⟨none, s.panel.sampleEnd, s.pins.ksel, dif_neg h, fun notLast => absurd notLast (by omega), fun _ => ⟨rfl, rfl⟩⟩

/-- The end of sample i: the state with the next sample selected takes the sample, at the interval's end (R125, log 3). -/
theorem sampleEnds {s : State} {i : Fin 32} (x : BitVec 12) (hs : Settled s) (hq : QueueLaw s) (running : s.panel.running = true)
    (sample : s.panel.sample = some i) : ∃ (next : Option (Fin 32)) (ends : Nat) (ksel : BitVec 4),
    let w := selected next ends ksel (advanceTo s.panel.sampleEnd s)
    let t := finish s (knobSample i x w)
    exec (.knobSampleEnd x) s = .next t ∧ Settled w ∧ KnobEffect i w t ∧
    (i.val < 31 → next.map Fin.val = some (i.val + 1) ∧ ends = s.panel.sampleEnd + 30 ∧ ksel = BitVec.ofNat 4 (i.val + 1)) ∧
    (i.val = 31 → next = none ∧ ksel = s.pins.ksel) := by
  obtain ⟨next, ends, ksel, selects, selection⟩ := nextSample_eq i (advanceTo s.panel.sampleEnd s)
  have settled : Settled (selected next ends ksel (advanceTo s.panel.sampleEnd s)) := settled_congr hs rfl rfl rfl rfl
  refine ⟨next, ends, ksel, by rw [exec_knobSampleEnd x running sample, selects], settled, ?_, selection⟩
  exact KnobEffect.knobSample.finish settled (onlyHellosLost_of_queueLaw (s := selected _ _ _ _) hq hs.1)

/-! ### The base value (R129) -/

theorem isKnobFor_iff {k : Byte} {e : TxEntry} : isKnobFor k e = true ↔ ∃ y, e.frame = .knob k y := by
  unfold isKnobFor
  split
  next k' y hf => simp [hf]
  next other => simpa using fun y hf => other k y hf

theorem not_apart_knobs {d e : TxEntry} {k : Byte} {x y : BitVec 16} (h : TxEntry.apart d e) (hd : d.frame = .knob k x)
    (he : e.frame = .knob k y) : False := by
  unfold TxEntry.apart at h
  rw [hd, he] at h
  exact h rfl

/-- One Knob entry per knob (R18). -/
theorem knobEntry_unique {s : State} {k : Byte} {d e : TxEntry} (h : QueueLaw s) (hd : d ∈ s.link.queue) (he : e ∈ s.link.queue)
    (hdk : isKnobFor k d = true) (hek : isKnobFor k e = true) : d = e := by
  obtain ⟨-, -, apart, -⟩ := h
  rw [List.pairwise_iff_getElem] at apart
  obtain ⟨x, hx⟩ := isKnobFor_iff.mp hdk
  obtain ⟨y, hy⟩ := isKnobFor_iff.mp hek
  obtain ⟨m, hm, rfl⟩ := List.getElem_of_mem hd
  obtain ⟨n, hn, rfl⟩ := List.getElem_of_mem he
  rcases Nat.lt_trichotomy m n with hlt | rfl | hgt
  · exact (not_apart_knobs (apart m n hm hn hlt) hx hy).elim
  · rfl
  · exact (not_apart_knobs (apart n m hn hm hgt) hy hx).elim

theorem baseValue_unqueued {s : State} {p : Fin 16}
    (h : ∀ e ∈ s.link.queue, isKnobFor (byteOf p.val) e = true → e.withdrawn = true) : baseValue p s = s.live[p].value := by
  have none : (s.link.queue.find? fun e => isKnobFor (byteOf p.val) e && !e.withdrawn) = none := by
    simpa using h
  unfold baseValue queuedKnob
  rw [none]

theorem baseValue_queued {s : State} {p : Fin 16} {e : TxEntry} {y : BitVec 16} (h : QueueLaw s) (he : e ∈ s.link.queue)
    (hf : e.frame = .knob (byteOf p.val) y) (hw : e.withdrawn = false) : baseValue p s = (e.followOn.getD y).toNat := by
  have knob : isKnobFor (byteOf p.val) e = true := isKnobFor_iff.mpr ⟨y, hf⟩
  have found : (s.link.queue.find? fun e => isKnobFor (byteOf p.val) e && !e.withdrawn) = some e := by
    cases hd : s.link.queue.find? fun e => isKnobFor (byteOf p.val) e && !e.withdrawn with
    | none => simpa [knob, hw] using List.find?_eq_none.mp hd e he
    | some d =>
      have sel := List.find?_some hd
      rw [Bool.and_eq_true] at sel
      rw [knobEntry_unique h (List.mem_of_find?_eq_some hd) he sel.1 knob]
  unfold baseValue queuedKnob
  rw [found]
  dsimp only
  cases hv : e.followOn with
  | none => rw [hf]; rfl
  | some v => rfl

/-! ### Uncatching (R134, R135) -/

/-- The record of a parameter knob set anew against a live value, if it has a position (R134). -/
def repicked (mode : PickupMode) (v : Nat) (k : Knob) : Knob :=
  match k.reading with
  | none => k
  | some r => { k with pickup := some (pickupAt mode (r / 4) v) }

theorem repicked_unread {mode : PickupMode} {v : Nat} {k : Knob} (h : k.reading = none) : repicked mode v k = k := by
  rw [repicked, h]

theorem repicked_read {mode : PickupMode} {v r : Nat} {k : Knob} (h : k.reading = some r) :
    repicked mode v k = { k with pickup := some (pickupAt mode (r / 4) v) } := by
  rw [repicked, h]

theorem repicked_repicked (mode : PickupMode) (v : Nat) (k : Knob) : repicked mode v (repicked mode v k) = repicked mode v k := by
  cases h : k.reading with
  | none => simp only [repicked_unread h]
  | some r =>
    rw [repicked_read h]
    exact repicked_read (by exact h)

/-- The record of a knob is changed by f as by any function with the same value there. -/
theorem updKnob_congr {i : Fin 32} {f g : Knob → Knob} {s : State} (h : f s.panel.knobs[i] = g s.panel.knobs[i]) :
    updKnob i f s = updKnob i g s := by
  simp only [updKnob, updAt, h]

theorem updKnob_fixed {i : Fin 32} {f : Knob → Knob} {s : State} (h : f s.panel.knobs[i] = s.panel.knobs[i]) :
    updKnob i f s = s := by
  rw [updKnob_congr (g := fun _ => s.panel.knobs[i]) h]
  simp only [updKnob, updAt_self]

theorem repick_eq (p : Fin 16) (s : State) :
    repick p s = updKnob (knobOfParam p) (repicked s.start.pickup s.live[p].value) s := by
  unfold repick
  split
  next r h =>
    rw [pickupFor_eq]
    exact updKnob_congr (repicked_read h).symm
  next h => exact (updKnob_fixed (repicked_unread h)).symm

theorem uncatch_eq {p : Fin 16} {s : State} (h : scansParams s = true) : uncatch p s =
    updKnob (knobOfParam p) (repicked s.start.pickup s.live[p].value) (withdraw (isKnobFrame (byteOf p.val)) s) := by
  unfold uncatch
  rw [if_pos h, repick_eq]
  rfl

/-- What a morph step does to the record of its knob in CATCH (R135). -/
def trailed (mode : PickupMode) (v : Nat) (k : Knob) : Knob :=
  if mode = .catch ∧ (k.pickup = some .waitUp ∨ k.pickup = some .waitDown) then repicked mode v k else k

theorem followStep_eq {p : Fin 16} {s : State} (h : scansParams s = true) :
    followStep p s = updKnob (knobOfParam p) (trailed s.start.pickup s.live[p].value) s := by
  unfold followStep
  rw [h, Bool.true_and]
  split
  next hm =>
    have hm : s.start.pickup = .catch := by simpa using hm
    split
    next hw =>
      rw [repick_eq]
      exact updKnob_congr (if_pos ⟨hm, .inl hw⟩).symm
    next hw =>
      rw [repick_eq]
      exact updKnob_congr (if_pos ⟨hm, .inr hw⟩).symm
    next up down =>
      exact (updKnob_fixed (if_neg fun ⟨_, hw⟩ => hw.elim up down)).symm
  next hm =>
    exact (updKnob_fixed (if_neg fun ⟨hc, _⟩ => hm (by rw [hc]; rfl))).symm

theorem trailed_trailed (mode : PickupMode) (v : Nat) (k : Knob) : trailed mode v (trailed mode v k) = trailed mode v k := by
  by_cases h : mode = .catch ∧ (k.pickup = some .waitUp ∨ k.pickup = some .waitDown)
  · have once : trailed mode v k = repicked mode v k := if_pos h
    rw [once, trailed, repicked_repicked, ite_self]
  · have stays : trailed mode v k = k := if_neg h
    rw [stays, stays]

theorem knobOfParam_inj {p q : Fin 16} : knobOfParam p = knobOfParam q ↔ p = q := by
  simp [knobOfParam, Fin.ext_iff]

/-- Knob updates of parameters one after another, each idempotent: every named knob is updated, and no other. -/
theorem foldl_knobs {f : Fin 16 → State → State} {g : Fin 16 → Knob → Knob} {P : State → Prop}
    (step : ∀ p t, P t → P (f p t) ∧ (f p t).panel.knobs = updAt t.panel.knobs (knobOfParam p) (g p))
    (idem : ∀ p k, g p (g p k) = g p k) (p : Fin 16) (ps : List (Fin 16)) {s : State} (h : P s) :
    (ps.foldl (fun t p => f p t) s).panel.knobs[knobOfParam p] =
      if p ∈ ps then g p s.panel.knobs[knobOfParam p] else s.panel.knobs[knobOfParam p] := by
  induction ps generalizing s with
  | nil => simp
  | cons q ps ih =>
    obtain ⟨hP, knobs⟩ := step q s h
    rw [List.foldl_cons, ih hP, knobs, updAt_getElem]
    by_cases hq : p = q
    · subst hq
      simp [idem]
    · simp [hq, knobOfParam_inj]

/-- With no loss notice and no look of the sequencer, the end of an event leaves the link. -/
theorem finish_link {before s : State} (hn : s.link.notices = []) (hs : s.tune.seq ≠ .select) : (finish before s).link = s.link := by
  simp [finish_select hn hs]

theorem finish_panel (before s : State) : (finish before s).panel = s.panel := by simp

/-! ### A Param of another station (R134) -/

theorem paramIndex_byteOf : ∀ p : Fin 16, paramIndex (byteOf p.val) = some p := by decide

theorem dispatching_of_following {s : State} (h : following s = true) : dispatching s = true := by
  obtain ⟨hp, hf⟩ : s.start.phase = .running ∧ s.start.fault ≠ .silent := by simpa [following] using h
  simp [dispatching, hp, hf, Phase.joined]

theorem exec_param {s : State} {src : Station} {p : Fin 16} {x : BitVec 16} (hc : canReceive s = true) (hf : following s = true) :
    exec (.param src (byteOf p.val) x) s = .next (finish s (uncatch p (applyParam p x (followed s)))) := by
  have heard : following (followed s) = true := hf
  have dispatched : dispatching (followed s) = true := dispatching_of_following heard
  simp only [exec, execParam, takeFrame, hc, hear, dispatched, heard, paramIndex_byteOf, if_true]

/-- A Param changes the live table, and posts codes (R145). -/
theorem applyParam_keeps (p : Fin 16) (x : BitVec 16) (s : State) :
    (applyParam p x s).link = s.link ∧ (applyParam p x s).panel = s.panel ∧ (applyParam p x s).start = s.start ∧
      (applyParam p x s).tune = s.tune ∧ (applyParam p x s).live[p].value = min x.toNat 1023 := by
  refine ⟨by simp [applyParam], by simp [applyParam], by simp [applyParam], by simp [applyParam], ?_⟩
  have live : (applyParam p x s).live = updAt s.live p fun _ => Param.settled (clampParam x) := by simp [applyParam]
  rw [live, updAt_same]
  rfl

theorem scansParams_congr {s t : State} (hp : t.panel.running = s.panel.running) (hs : t.start = s.start) :
    scansParams t = scansParams s := by
  rw [scansParams, hp, stationId, hs]
  rfl

/-- A station that is not sending has no entry on the line (R18). -/
theorem onLine_false {s : State} (h : QueueLaw s) (hp : s.link.place ≠ .sending) : ∀ e ∈ s.link.queue, e.onLine = false := by
  obtain ⟨-, -, -, -, -, onLine, -⟩ := h
  rw [if_neg hp, List.length_eq_zero_iff, List.filter_eq_nil_iff] at onLine
  intro e he
  simpa using onLine e he

section
variable {p : Fin 16} {s : State} (h : scansParams s = true)
include h

theorem uncatch_knobs :
    (uncatch p s).panel.knobs = updAt s.panel.knobs (knobOfParam p) (repicked s.start.pickup s.live[p].value) := by
  rw [uncatch_eq h]
  rfl

/-- Uncatching leaves the loss notices and all that a further uncatching reads besides the queue and the records. -/
theorem uncatch_keeps : (uncatch p s).link.notices = s.link.notices ∧ (uncatch p s).tune = s.tune ∧
    (uncatch p s).start = s.start ∧ (uncatch p s).live = s.live ∧ (uncatch p s).mem = s.mem ∧
    (uncatch p s).panel.running = s.panel.running := by
  rw [uncatch_eq h]
  exact ⟨rfl, rfl, rfl, rfl, rfl, rfl⟩

/-- Off the line the Knob frame leaves the queue (R22, R134). -/
theorem uncatch_link (offLine : ∀ e ∈ s.link.queue, e.onLine = false) :
    (uncatch p s).link = { s.link with queue := s.link.queue.filter fun e => !isKnobFor (byteOf p.val) e } := by
  have queue : (withdraw (isKnobFrame (byteOf p.val)) s).link.queue = s.link.queue.filter fun e => !isKnobFor (byteOf p.val) e :=
    withdraw_queue_offLine fun e he on => absurd on (by simp [offLine e he])
  rw [uncatch_eq h, ← queue]
  rfl

end

/-- A Param of another station takes the queued Knob frame out and sets the record anew against the new value (R134). -/
theorem paramUncatchesKnob {s : State} {src : Station} {p : Fin 16} {x : BitVec 16} (hs : Settled s) (hq : QueueLaw s)
    (hc : canReceive s = true) (hf : following s = true) (hr : s.panel.running = true) (h0 : stationId s = 0) :
    ∃ t, exec (.param src (byteOf p.val) x) s = .next t ∧
      t.link = { s.link with
        place := .inPlace s.now, queue := s.link.queue.filter fun e => !isKnobFor (byteOf p.val) e } ∧
      (∀ j : Fin 32, j ≠ knobOfParam p → t.panel.knobs[j] = s.panel.knobs[j]) ∧
      t.panel.knobs[knobOfParam p] = repicked s.start.pickup (min x.toNat 1023) s.panel.knobs[knobOfParam p] := by
  obtain ⟨link, panel, start, tune, value⟩ := applyParam_keeps p x (followed s)
  have run := exec_param (p := p) (src := src) (x := x) hc hf
  generalize applyParam p x (followed s) = applied at *
  have scans : scansParams applied = true := by
    rw [scansParams_congr (s := s) (by rw [panel]; rfl) start, scansParams, hr, h0]
    rfl
  have notSending : s.link.place ≠ .sending := fun h => by simp [canReceive, h] at hc
  have offLine : ∀ e ∈ applied.link.queue, e.onLine = false := by
    rw [link]
    exact onLine_false (s := s) hq notSending
  obtain ⟨notices, seq, -⟩ := uncatch_keeps (p := p) scans
  refine ⟨_, run, ?_, fun j hj => ?_, ?_⟩
  · rw [finish_link, uncatch_link scans offLine, link]
    · rfl
    · rw [notices, link]
      exact hs.1
    · rw [seq, tune]
      exact hs.2.1
  · rw [finish_panel, uncatch_knobs scans, updAt_other _ _ _ _ hj, panel]
    rfl
  · rw [finish_panel, uncatch_knobs scans, updAt_same, value, start, panel]
    rfl

/-! ### A recall (R134, R149, R150) -/

/-- Every Knob entry for knob k bears the withdrawal mark. -/
def Marked (k : Byte) (s : State) : Prop := ∀ e ∈ s.link.queue, isKnobFor k e = true → e.withdrawn = true

/-- A withdrawal of any frames takes no withdrawal mark away (R22). -/
theorem Marked.withdraw {k : Byte} {s : State} {sel : Frame → Bool} (h : Marked k s) : Marked k (withdraw sel s) := by
  intro e he hk
  obtain ⟨d, hd, rfl⟩ := List.mem_map.mp he
  have old := h d (List.mem_filter.mp hd).1
  split at hk
  next sel => rw [if_pos sel]
  next sel =>
    rw [if_neg sel]
    exact old hk

section
variable {p : Fin 16} {s : State} (h : scansParams s = true)
include h

theorem marked_uncatch : Marked (byteOf p.val) (uncatch p s) := by
  rw [uncatch_eq h]
  exact fun e he hk => withdraw_marks (s := s) (sel := isKnobFrame (byteOf p.val)) he hk

theorem Marked.uncatch {k : Byte} (hm : Marked k s) : Marked k (uncatch p s) := by
  rw [uncatch_eq h]
  exact Marked.withdraw hm

end

/-- Nothing but the records and the queue has changed since s, and no notice has come up. -/
structure Uncatches (s t : State) : Prop where
  scans : scansParams t = true
  start : t.start = s.start
  live : t.live = s.live
  tune : t.tune = s.tune
  mem : t.mem = s.mem
  notices : t.link.notices = s.link.notices

theorem Uncatches.uncatch {s t : State} (h : Uncatches s t) (p : Fin 16) : Uncatches s (uncatch p t) := by
  obtain ⟨notices, tune, start, live, mem, running⟩ := uncatch_keeps (p := p) h.scans
  exact ⟨by rw [scansParams_congr running start, h.scans], start.trans h.start, live.trans h.live, tune.trans h.tune,
    mem.trans h.mem,     notices.trans h.notices⟩

section
variable {s : State} (ps : List (Fin 16)) (scans : scansParams s = true)
include scans

/-- Several parameters uncaught: every one of them has its record set anew (R134). -/
theorem foldl_uncatch_knobs (p : Fin 16) :
    (ps.foldl (fun t p => uncatch p t) s).panel.knobs[knobOfParam p] =
      if p ∈ ps then repicked s.start.pickup s.live[p].value s.panel.knobs[knobOfParam p]
      else s.panel.knobs[knobOfParam p] :=
  foldl_knobs (P := Uncatches s) (g := fun p => repicked s.start.pickup s.live[p].value)
    (fun p t ht => ⟨ht.uncatch p, by rw [uncatch_knobs ht.scans, ht.start, ht.live]⟩)
    (fun p => repicked_repicked _ _) p ps ⟨scans, rfl, rfl, rfl, rfl, rfl⟩

theorem foldl_uncatch_keeps : Uncatches s (ps.foldl (fun t p => uncatch p t) s) :=
  foldl_keeps (P := Uncatches s) (fun _ p ht => ht.uncatch p) ⟨scans, rfl, rfl, rfl, rfl, rfl⟩

/-- Several parameters uncaught: none of them has an entry left that is not to be withdrawn (R134). -/
theorem foldl_uncatch_marked {p : Fin 16} (hp : p ∈ ps) : Marked (byteOf p.val) (ps.foldl (fun t p => uncatch p t) s) := by
  obtain ⟨front, back, rfl⟩ := List.append_of_mem hp
  have before := foldl_uncatch_keeps front scans
  rw [List.foldl_append, List.foldl_cons]
  have now := before.uncatch p
  refine (foldl_keeps (P := fun t => Uncatches s t ∧ Marked (byteOf p.val) t) (fun t q ht => ?_) ?_).2
  · exact ⟨ht.1.uncatch q, ht.2.uncatch ht.1.scans⟩
  · exact ⟨now, marked_uncatch before.scans⟩

end

theorem morphTo_value (t ms m : Nat) (q : Param) : (q.morphTo t ms m).value = q.value := by
  unfold Param.morphTo
  split <;> rfl

/-- A recall uncatches the knobs of the parameters it changes, with the live table set or its morphs begun (R135, R149, R150). -/
theorem recallApply_eq (m : Byte) (v : Vector Nat 16) (s : State) :
    ∃ w, recallApply m v s = (differing v s).foldl (fun t p => uncatch p t) w ∧ w.link = s.link ∧ w.panel = s.panel ∧
      w.start = s.start ∧ w.tune = s.tune ∧ w.mem = s.mem ∧
      ∀ p : Fin 16, w.live[p].value = if m = 0 then v[p] else s.live[p].value := by
  unfold recallApply
  split
  next h =>
    refine ⟨paramsChanged (differing v s) (setLive v s), rfl, by simp [setLive], by simp [setLive], by simp [setLive],
      by simp [setLive], by simp [setLive], fun p => ?_⟩
    have live : (paramsChanged (differing v s) (setLive v s)).live = v.map Param.settled := by simp [setLive]
    rw [live]
    simp [Param.settled]
  next h =>
    refine ⟨_, rfl, rfl, rfl, rfl, rfl, rfl, fun p => ?_⟩
    simp [morphTo_value]

theorem mem_differing {v : Vector Nat 16} {s : State} {p : Fin 16} : p ∈ differing v s ↔ s.live[p].value ≠ v[p] := by
  simp [differing]

/-- In RUNNING with no request left and no CAL-WRITE held, the end of an operation brings nothing more (R162). -/
theorem afterOperation_idle {s : State} (hs : s.tune.seq ≠ .commit) (hl : s.start.load = .none) (hp : s.start.phase = .running)
    (hq : s.mem.queue = []) : afterOperation id s = s := by
  have room : tuneRoom s = s := by
    unfold tuneRoom
    split
    next h _ _ => exact absurd h hs
    next => rfl
  have loads : fillLoads s = s := by rw [fillLoads, hl]
  have service : beginService s = s := by
    unfold beginService
    split
    next hc => rw [hq] at hc; cases hc
    next => rfl
  have probe : startProbe s = s := by rw [startProbe, hl]
  have complete : loadsComplete s = s := if_neg fun h => by simp [hp] at h
  rw [afterOperation, id, room, loads, service, probe, complete]

theorem readResult_recall {s : State} {slot : PatchSlot} {m : Byte} {v : Vector Nat 16} {page : Vector Byte 64}
    (phase : s.start.phase = .running) (fault : s.start.fault ≠ .silent) (valid : judgePatch slot page = .valid v) :
    readResult ⟨.recallRead slot m, false⟩ page s = recallApply m v s := by
  have loaded : ¬ s.start.phase = .loading := by simp [phase]
  change recallResult slot m page s = _
  rw [recallResult, if_neg fault, valid]
  exact if_neg loaded

/-- The queue's one request, a recall, is read: it is applied with the queue empty (R149, R150, R162). -/
theorem exec_recallRead {s : State} {d : Nat} {slot : PatchSlot} {m : Byte} {v : Vector Nat 16} {mdi : MdiPage}
    (port : s.mem.port = .reading d) (queue : s.mem.queue = [⟨.recallRead slot m, false⟩]) (phase : s.start.phase = .running)
    (fault : s.start.fault ≠ .silent) (valid : judgePatch slot (MdiPage.bytesOf slot.val s.eeprom mdi) = .valid v) :
    exec (.pageReadComplete ⟨mdi, .none⟩) s =
      .next (finish s (afterOperation id (recallApply m v (finishOperation (advanceTo d s))))) := by
  have applied := readResult_recall (s := finishOperation (advanceTo d s)) (m := m) phase fault valid
  simp only [exec, execPageReadComplete, port, queue, readEnds, ← applied, rivalEffect_none]
  rfl

/-- A completed recall withdraws the queued Knob frames of the parameters it changes and sets their records anew (R134, R135). -/
theorem recallUncatchesKnobs {s : State} {d : Nat} {slot : PatchSlot} {m : Byte} {v : Vector Nat 16} {mdi : MdiPage}
    (hs : Settled s) (port : s.mem.port = .reading d) (queue : s.mem.queue = [⟨.recallRead slot m, false⟩])
    (seq : s.tune.seq ≠ .commit) (load : s.start.load = .none) (phase : s.start.phase = .running)
    (fault : s.start.fault ≠ .silent) (running : s.panel.running = true) (h0 : stationId s = 0)
    (valid : judgePatch slot (MdiPage.bytesOf slot.val s.eeprom mdi) = .valid v) :
    ∃ t, exec (.pageReadComplete ⟨mdi, .none⟩) s = .next t ∧
      (∀ p : Fin 16, s.live[p].value ≠ v[p] → Marked (byteOf p.val) t) ∧
      ∀ p : Fin 16, t.panel.knobs[knobOfParam p] =
        if s.live[p].value = v[p] then s.panel.knobs[knobOfParam p]
        else repicked s.start.pickup (if m = 0 then v[p] else s.live[p].value) s.panel.knobs[knobOfParam p] := by
  have run := exec_recallRead (m := m) port queue phase fault valid
  obtain ⟨w, applied, link, panel, start, tune, mem, live⟩ := recallApply_eq m v (finishOperation (advanceTo d s))
  rw [applied] at run
  have scans : scansParams w = true := by
    rw [scansParams_congr (s := s) (by rw [panel]; rfl) start, scansParams, running, h0]
    rfl
  have differ : ∀ p, p ∈ differing v (finishOperation (advanceTo d s)) ↔ s.live[p].value ≠ v[p] := fun p => mem_differing
  have marked := fun p => foldl_uncatch_marked (p := p) (differing v (finishOperation (advanceTo d s))) scans
  have knobs := foldl_uncatch_knobs (differing v (finishOperation (advanceTo d s))) scans
  obtain ⟨-, startKept, -, tuneKept, memKept, noticesKept⟩ :=
    foldl_uncatch_keeps (differing v (finishOperation (advanceTo d s))) scans
  generalize (differing v (finishOperation (advanceTo d s))).foldl (fun t p => uncatch p t) w = u at *
  rw [afterOperation_idle (by rw [tuneKept, tune]; exact seq) (by rw [startKept, start]; exact load)
    (by rw [startKept, start]; exact phase) (by rw [memKept, mem]; simp [finishOperation, queue])] at run
  have linkKept : (finish s u).link = u.link :=
    finish_link (by rw [noticesKept, link]; exact hs.1) (by rw [tuneKept, tune]; exact hs.2.1)
  refine ⟨_, run, fun p hp => ?_, fun p => ?_⟩
  · rw [Marked, linkKept]
    exact marked p ((differ p).mpr hp)
  · rw [finish_panel, knobs, live, panel, start]
    by_cases hp : s.live[p].value = v[p]
    · rw [if_neg (by rw [differ]; exact not_not_intro hp), if_pos hp]
      rfl
    · rw [if_pos ((differ p).mpr hp), if_neg hp]
      rfl

/-! ### A morph step (R135, R151) -/

/-- The search for the step that is due first, one parameter further. -/
def dueFirst (live : Vector Param 16) (best : Option Morph) (p : Fin 16) : Option Morph :=
  match live[p].morph, best with
  | some m, some b => if m.due < b.due then some m else best
  | some m, none => some m
  | none, _ => best

theorem firstMorph_eq (live : Vector Param 16) : firstMorph live = (List.finRange 16).foldl (dueFirst live) none := rfl

theorem dueFirst_none {live : Vector Param 16} {best : Option Morph} {p : Fin 16} (h : live[p].morph = none) :
    dueFirst live best p = best := by
  unfold dueFirst
  rw [h]

/-- A morph that is due before the best so far takes its place. -/
theorem dueFirst_takes {live : Vector Param 16} {best : Option Morph} {p : Fin 16} {m : Morph} (h : live[p].morph = some m)
    (first : ∀ b, best = some b → m.due < b.due) : dueFirst live best p = some m := by
  unfold dueFirst
  rw [h]
  cases best with
  | none => rfl
  | some b => exact if_pos (first b rfl)

/-- A morph that is not due before the best so far leaves it. -/
theorem dueFirst_leaves {live : Vector Param 16} {b : Morph} {p : Fin 16}
    (h : ∀ m, live[p].morph = some m → b.due ≤ m.due) : dueFirst live (some b) p = some b := by
  cases hm : live[p].morph with
  | none => exact dueFirst_none hm
  | some m =>
    unfold dueFirst
    rw [hm]
    exact if_neg (Nat.not_lt.mpr (h m hm))

/-- What the search has found is a morph of some parameter, or what it began with. -/
theorem foldl_dueFirst_mem {live : Vector Param 16} {ps : List (Fin 16)} {best : Option Morph} {b : Morph}
    (h : ps.foldl (dueFirst live) best = some b) : best = some b ∨ ∃ p ∈ ps, live[p].morph = some b := by
  induction ps generalizing best with
  | nil => exact .inl h
  | cons p ps ih =>
    rcases ih h with found | ⟨q, hq, found⟩
    · cases hm : live[p].morph with
      | none => exact .inl (by rwa [dueFirst_none hm] at found)
      | some m =>
        unfold dueFirst at found
        rw [hm] at found
        cases best with
        | none => exact .inr ⟨p, List.mem_cons_self, hm.trans found⟩
        | some c =>
          dsimp only at found
          split at found
          · exact .inr ⟨p, List.mem_cons_self, hm.trans found⟩
          · exact .inl found
    · exact .inr ⟨q, List.mem_cons_of_mem p hq, found⟩

theorem foldl_dueFirst_leaves {live : Vector Param 16} {ps : List (Fin 16)} {b : Morph}
    (h : ∀ p ∈ ps, ∀ m, live[p].morph = some m → b.due ≤ m.due) : ps.foldl (dueFirst live) (some b) = some b := by
  induction ps with
  | nil => rfl
  | cons p ps ih =>
    rw [List.foldl_cons, dueFirst_leaves (h p List.mem_cons_self)]
    exact ih fun q hq => h q (List.mem_cons_of_mem p hq)

/-- The morph that is due first, the lowest parameter's among equals (log 21). -/
theorem firstMorph_of_least {live : Vector Param 16} {g : Fin 16} {r : Morph} (hg : live[g].morph = some r)
    (least : ∀ p : Fin 16, ∀ m, live[p].morph = some m → r.due < m.due ∨ (r.due = m.due ∧ g ≤ p)) :
    firstMorph live = some r := by
  obtain ⟨front, back, split⟩ := List.append_of_mem (List.mem_finRange g)
  have ascending : (List.finRange 16).Pairwise (· < ·) := List.pairwise_lt_finRange 16
  rw [split] at ascending
  have below : ∀ p ∈ front, p < g := fun p hp => (List.pairwise_append.mp ascending).2.2 p hp g List.mem_cons_self
  rw [firstMorph_eq, split, List.foldl_append, List.foldl_cons, dueFirst_takes hg, foldl_dueFirst_leaves]
  · intro p _ m hm
    rcases least p m hm with h | ⟨h, -⟩ <;> omega
  · intro b hb
    rcases foldl_dueFirst_mem hb with h | ⟨p, hp, hm⟩
    · cases h
    · rcases least p b hm with h | ⟨-, h⟩
      · exact h
      · exact absurd (below p hp) (Fin.not_lt.mpr h)

theorem mem_morphGroup {t0 : Nat} {live : Vector Param 16} {p : Fin 16} :
    p ∈ morphGroup t0 live ↔ ∃ m, live[p].morph = some m ∧ m.startTime = t0 := by
  rw [morphGroup, List.mem_filter]
  cases h : live[p].morph with
  | none => simp
  | some m => simp [List.mem_finRange]

/-- A step of some morphs: the live table changes and codes are posted, then the scanner follows (R151, R135). -/
theorem stepGroup_eq (ps : List (Fin 16)) (s : State) : ∃ w, stepGroup ps s = ps.foldl (fun t p => followStep p t) w ∧
    w.link = s.link ∧ w.panel = s.panel ∧ w.start = s.start ∧ w.tune = s.tune := by
  refine ⟨_, rfl, ?_⟩
  have stepped := foldl_keeps (P := fun t => t.link = s.link ∧ t.panel = s.panel ∧ t.start = s.start ∧ t.tune = s.tune)
    (f := fun t p => updParam p Param.step t) (l := ps) (s := s) (fun t p h => by simpa using h) ⟨rfl, rfl, rfl, rfl⟩
  simpa using stepped

/-- Nothing but the records has changed since s. -/
structure Follows (s t : State) : Prop where
  scans : scansParams t = true
  start : t.start = s.start
  live : t.live = s.live
  tune : t.tune = s.tune
  link : t.link = s.link

theorem Follows.step {s t : State} (h : Follows s t) (p : Fin 16) : Follows s (followStep p t) := by
  rw [followStep_eq h.scans]
  exact ⟨h.scans, h.start, h.live, h.tune, h.link⟩

section
variable {s : State} (ps : List (Fin 16)) (scans : scansParams s = true)
include scans

theorem foldl_followStep_knobs (p : Fin 16) :
    (ps.foldl (fun t p => followStep p t) s).panel.knobs[knobOfParam p] =
      if p ∈ ps then trailed s.start.pickup s.live[p].value s.panel.knobs[knobOfParam p]
      else s.panel.knobs[knobOfParam p] :=
  foldl_knobs (P := Follows s) (g := fun p => trailed s.start.pickup s.live[p].value)
    (fun p t ht => ⟨ht.step p, by rw [followStep_eq ht.scans, ht.start, ht.live]; rfl⟩)
    (fun p => trailed_trailed _ _) p ps ⟨scans, rfl, rfl, rfl, rfl⟩

theorem foldl_followStep_keeps : Follows s (ps.foldl (fun t p => followStep p t) s) :=
  foldl_keeps (P := Follows s) (fun _ p ht => ht.step p) ⟨scans, rfl, rfl, rfl, rfl⟩

end

/-- MORPH_STEP: the knobs of the group's parameters follow the live table that the step leaves, and nothing is queued (R135). -/
theorem morphStepTrailsKnobs {s : State} {g : Fin 16} {r : Morph} (hs : Settled s) (hg : s.live[g].morph = some r)
    (least : ∀ p : Fin 16, ∀ m, s.live[p].morph = some m → r.due < m.due ∨ (r.due = m.due ∧ g ≤ p))
    (running : s.panel.running = true) (h0 : stationId s = 0) :
    ∃ t, exec .morphStep s = .next t ∧ t.link = s.link ∧ ∀ p : Fin 16,
      t.panel.knobs[knobOfParam p] =
        if p ∈ morphGroup r.startTime s.live then
          trailed s.start.pickup t.live[p].value s.panel.knobs[knobOfParam p]
        else s.panel.knobs[knobOfParam p] := by
  have run : exec .morphStep s =
      .next (finish s (stepGroup (morphGroup r.startTime s.live) (advanceTo (r.due * 1000) s))) := by
    simp only [exec, execMorphStep, firstMorph_of_least hg least]
  obtain ⟨w, stepped, link, panel, start, tune⟩ := stepGroup_eq (morphGroup r.startTime s.live) (advanceTo (r.due * 1000) s)
  have scans : scansParams w = true := by
    rw [scansParams_congr (s := s) (by rw [panel]; rfl) start, scansParams, running, h0]
    rfl
  obtain ⟨-, -, liveKept, tuneKept, linkKept⟩ := foldl_followStep_keeps (morphGroup r.startTime s.live) scans
  have knobs := foldl_followStep_knobs (morphGroup r.startTime s.live) scans
  rw [stepped] at run
  generalize (morphGroup r.startTime s.live).foldl (fun t p => followStep p t) w = u at *
  have liveEnd : (finish s u).live = w.live := by simp [liveKept]
  refine ⟨_, run, ?_, fun p => ?_⟩
  · rw [finish_link, linkKept, link]
    · rfl
    · rw [linkKept, link]
      exact hs.1
    · rw [tuneKept, tune]
      exact hs.2.1
  · rw [finish_panel, knobs, liveEnd, panel, start]
    rfl

/-! ### The family's statement -/

theorem exec_knobRoundStart {s : State} (running : s.panel.running = true) (sample : s.panel.sample = none) :
    exec .knobRoundStart s = .next (beginRound (advanceTo s.panel.nextRound s)) :=
  if_pos ⟨running, sample⟩

/-- Settles O45. A sample changes the link and one record, and its end adds at most the notices of evicted Hellos; a Param, a recall
and a morph step act on the records by an update that is idempotent for each knob. -/
theorem knobSamplesAreAveraged : Obligations.KnobSamplesAreAveraged := by
  refine ⟨fun s => exec_knobRoundStart, fun s i x hs hq running sample => ?_,
    fun s p hq => ⟨baseValue_unqueued, fun e he y => baseValue_queued hq he⟩,
    fun s src p x hs hq hc hf hr h0 => ?_, fun s d slot m v mdi hs port queue seq load phase fault hr h0 valid => ?_,
    fun s g r hs hg least hr h0 => ?_⟩
  · obtain ⟨next, ends, ksel, run, hw, effect, notLast, last⟩ := sampleEnds x hs hq running sample
    let w := selected next ends ksel (advanceTo s.panel.sampleEnd s)
    obtain ⟨panel, now, pins, -, live, voices, gates, mem, eeprom, -, -, -⟩ := effect.keeps
    refine ⟨_, run, now, ?_, fun j hj => effect.otherKnobs hj, by rw [panel]; rfl, fun h => ?_, fun h => ?_, fun filling => ?_,

      fun full first => finish_firstReading (s := w) hw (Nat.not_lt.mpr (Nat.le_of_eq full.symm)) first,
      fun r full later => ?_, live, voices, gates, mem, eeprom⟩
    · rw [finish_knob, knobSample_ring]
      rfl
    · rw [panel, pins]
      exact notLast h
    · rw [panel, pins]
      exact last h
    · rw [finish_filling (s := w) hw filling, ringed_knob]
      exact ⟨rfl, rfl, rfl⟩
    · have notFilling := Nat.not_lt.mpr (Nat.le_of_eq full.symm)
      obtain ⟨takes, stays, quiet⟩ := finish_later (s := w) (before := s) (x := x) hw notFilling later
      rw [takesAverage_iff] at takes stays quiet
      refine ⟨takes, stays, quiet, fun yes moved tx => ⟨fun hn => ?_, fun p hn => ?_⟩⟩
      · exact finish_follows (s := w) hw tx
          (knobSample_moves_plain (s := w) notFilling later ((takesAverage_iff _ _).mpr yes) moved hn)
      · exact finish_paramKnob (s := w) hw tx
          (knobSample_moves_param (s := w) notFilling later ((takesAverage_iff _ _).mpr yes) moved hn)
  · obtain ⟨t, run, link, others, record⟩ := paramUncatchesKnob (src := src) (p := p) (x := x) hs hq hc hf hr h0
    exact ⟨t, run, link, others, record⟩
  · obtain ⟨t, run, marked, records⟩ := recallUncatchesKnobs (m := m) hs port queue seq load phase fault hr h0 valid
    refine ⟨t, run, fun e he p hk hp => marked p hp e he hk, fun p => (records p).trans ?_⟩
    cases hx : s.panel.knobs[knobOfParam p].reading with
    | none => rw [repicked_unread hx, ite_self]
    | some x => rw [repicked_read hx]
  · obtain ⟨t, run, link, records⟩ := morphStepTrailsKnobs hs hg least hr h0
    refine ⟨t, run, link, fun p x hx => ⟨fun ⟨hm, member, waits⟩ => ?_, fun no => ?_⟩⟩
    · have trails : trailed s.start.pickup t.live[p].value s.panel.knobs[knobOfParam p] =
          repicked s.start.pickup t.live[p].value s.panel.knobs[knobOfParam p] := if_pos ⟨hm, waits⟩
      rw [records, if_pos (mem_morphGroup.mpr member), trails, repicked_read hx, hm]
    · rw [records]
      by_cases member : p ∈ morphGroup r.startTime s.live
      · rw [if_pos member]
        exact if_neg fun ⟨hm, waits⟩ => no ⟨hm, mem_morphGroup.mp member, waits⟩
      · exact if_neg member

end Sys2Proof.PanelScanning
end

section
/-!
The live patch, recall and store (08): every step keeps the live table in range (R143, R151), a Param (R144, R145), Recall and Store at
the Memory Controller's queue (R147, R152, R161), and a morph step (R151).
-/
namespace Sys2Proof.LivePatch
open Sys2Proof Sys2Proof.Machine Sys2Proof.Safety
open Sys2Proof.ClaimRounds (settled_congr takeFrame_settled)
open Sys2Proof.PanelScanning

/-! ### Uncatching and following touch the queue and the knob records only (R134, R135) -/

theorem uncatch_frame (p : Fin 16) (s : State) : ∃ queue knobs,
    uncatch p s = { s with link := { s.link with queue := queue }, panel := { s.panel with knobs := knobs } } := by
  cases scans : scansParams s with
  | false => exact ⟨s.link.queue, s.panel.knobs, by rw [uncatch, scans]; rfl⟩
  | true => exact ⟨_, _, uncatch_eq scans⟩

theorem followStep_frame (p : Fin 16) (s : State) : ∃ knobs,
    followStep p s = { s with panel := { s.panel with knobs := knobs } } := by
  cases scans : scansParams s with
  | false => exact ⟨s.panel.knobs, by rw [followStep, scans]; rfl⟩
  | true => exact ⟨_, followStep_eq scans⟩

@[simp] theorem uncatch_live (p : Fin 16) (s : State) : (uncatch p s).live = s.live := by
  obtain ⟨_, _, frame⟩ := uncatch_frame p s
  rw [frame]

@[simp] theorem followStep_live (p : Fin 16) (s : State) : (followStep p s).live = s.live := by
  obtain ⟨_, frame⟩ := followStep_frame p s
  rw [frame]

/-- A fold of steps that leave the live table alone. -/
theorem foldl_live {α : Type} {f : State → α → State} (h : ∀ t a, (f t a).live = t.live) (l : List α) (s : State) :
    (l.foldl f s).live = s.live :=
  foldl_keeps (P := fun t => t.live = s.live) (fun t a ht => (h t a).trans ht) rfl

/-! ### What leaves the live table alone

One lemma for each shared operation that Laws/Ops.lean does not treat, in the order of the definitions. -/

@[simp] theorem giveUpClaim_live (i : Ident) (s : State) : (giveUpClaim i s).live = s.live := rfl

@[simp] theorem winClaim_live (i : Ident) (u : VoiceIdx) (s : State) : (winClaim i u s).live = s.live := by
  unfold winClaim; split <;> simp

@[simp] theorem decideClaim_live (i : Ident) (vel : Velocity) (s : State) : (decideClaim i vel s).live = s.live := by
  unfold decideClaim; repeat' split
  all_goals simp

@[simp] theorem claimExpires_live (i : Ident) (s : State) : (claimExpires i s).live = s.live := by
  unfold claimExpires; split <;> simp

@[simp] theorem noteOffEffect_live (src : Station) (n : Note) (s : State) : (noteOffEffect src n s).live = s.live := by
  unfold noteOffEffect noteOffVoice; repeat' split
  all_goals simp

@[simp] theorem setBend_live (src : Station) (b : Int) (s : State) : (setBend src b s).live = s.live := by
  unfold setBend; dsimp only; split <;> simp

@[simp] theorem setSustain_live (src : Station) (on : Bool) (s : State) : (setSustain src on s).live = s.live := by
  unfold setSustain; dsimp only; split <;> simp

@[simp] theorem finishOperation_live (s : State) : (finishOperation s).live = s.live := rfl
@[simp] theorem restartMemory_live (s : State) : (restartMemory s).live = s.live := rfl
@[simp] theorem requestTunes_live (mask : Byte) (s : State) : (requestTunes mask s).live = s.live := rfl

@[simp] theorem addPair_live (t : Station) (w : VoiceIdx) (s : State) : (addPair t w s).live = s.live := by
  unfold addPair; split <;> simp

@[simp] theorem removePairs_live (sel : Station × VoiceIdx → Bool) (s : State) : (removePairs sel s).live = s.live := by
  unfold removePairs; split <;> simp

@[simp] theorem helloTune_live (src : Station) (s : State) : (helloTune src s).live = s.live := by
  unfold helloTune; dsimp only; split <;> simp

@[simp] theorem beginPass_live (u : VoiceIdx) (w : TuneWork) (s : State) : (beginPass u w s).live = s.live := rfl

@[simp] theorem ownTuneBegin_live (w : VoiceIdx) (s : State) : (ownTuneBegin w s).live = s.live := by
  unfold ownTuneBegin
  split
  · rfl
  · simp [endStray]

@[simp] theorem measureWritten_live (u : VoiceIdx) (s : State) : (measureWritten u s).live = s.live := by
  unfold measureWritten; split <;> simp

@[simp] theorem clearMeasure_live (u : VoiceIdx) (s : State) : (clearMeasure u s).live = s.live := rfl

@[simp] theorem handTuneEnd_live (u : VoiceIdx) (s : State) : (handTuneEnd u s).live = s.live := by
  unfold handTuneEnd; dsimp only; repeat' split
  all_goals simp

@[simp] theorem handCal_live (u : VoiceIdx) (r : MemReq) (s : State) : (handCal u r s).live = s.live := by
  unfold handCal; split <;> simp

@[simp] theorem tuneRoom_live (s : State) : (tuneRoom s).live = s.live := by
  unfold tuneRoom; split <;> simp

@[simp] theorem finishTune_live (u : VoiceIdx) (o : TuneOutcome) (d : Byte) (s : State) :
    (finishTune u o d s).live = s.live := by
  simp [finishTune]

@[simp] theorem failTune_live (u : VoiceIdx) (o : TuneOutcome) (d : Byte) (s : State) :
    (failTune u o d s).live = s.live := by
  simp [failTune]

@[simp] theorem completeTune_live (u : VoiceIdx) (w : TuneWork) (s : State) : (completeTune u w s).live = s.live := by
  unfold completeTune; dsimp only; split <;> simp [succeedTune]

@[simp] theorem judgePass_live (u : VoiceIdx) (w : TuneWork) (e : Int) (s : State) : (judgePass u w e s).live = s.live := by
  unfold judgePass acceptPass; repeat' split
  all_goals simp [selectOsc]

@[simp] theorem failCount_live (o : TuneOutcome) (s : State) : (failCount o s).live = s.live := by
  unfold failCount; split <;> simp [stopCounter]

@[simp] theorem countResult_live (n : Nat) (s : State) : (countResult n s).live = s.live := by
  unfold countResult; repeat' split
  all_goals simp [stopCounter]

@[simp] theorem stopTune_live (s : State) : (stopTune s).live = s.live := by
  unfold stopTune; dsimp only; split <;> simp [stopMeasure]

@[simp] theorem abortTune_live (s : State) : (abortTune s).live = s.live := by
  unfold abortTune; dsimp only; split <;> simp

@[simp] theorem startScanner_live (s : State) : (startScanner s).live = s.live := by
  unfold startScanner; split <;> simp

/-- A sample changes the link and one knob record (R127 to R133). -/
@[simp] theorem knobSample_live (i : Fin 32) (x : BitVec 12) (s : State) : (knobSample i x s).live = s.live := by
  obtain ⟨_, _, _, _, live, _⟩ := (KnobEffect.knobSample (i := i) (s := s) (x := x)).keeps
  exact live

@[simp] theorem nextSample_live (i : Fin 32) (s : State) : (nextSample i s).live = s.live := by
  unfold nextSample; split <;> simp

@[simp] theorem rowEnds_live (ss : BitVec 8) (s : State) : (rowEnds ss s).live = s.live := by
  unfold rowEnds; dsimp only; split <;> simp [endPass, nextRow]

@[simp] theorem enterMuted_live (c : FaultCode) (d : Byte) (s : State) : (enterMuted c d s).live = s.live := by
  have levels (t : State) : (forVoices forceLevel t).live = t.live :=
    forVoices_keeps (P := fun x => x.live = t.live) (fun u x h => by simp [h]) rfl
  simp [enterMuted, levels]

@[simp] theorem flushQueue_live (s : State) : (flushQueue s).live = s.live := by
  unfold flushQueue breakOwnFrame; split <;> simp [leaveLine]

@[simp] theorem raiseFault_live (c : FaultCode) (d : Byte) (s : State) : (raiseFault c d s).live = s.live := by
  have loads (t : State) : (abandonLoads t).live = t.live := by unfold abandonLoads; split <;> simp
  unfold raiseFault; split <;> simp [enterSilent, loads]

@[simp] theorem enterRunning_live (s : State) : (enterRunning s).live = s.live := by
  unfold enterRunning; dsimp only; split <;> simp

@[simp] theorem endLoading_live (s : State) : (endLoading s).live = s.live := by
  simp [endLoading, loadVoices]

@[simp] theorem startProbe_live (s : State) : (startProbe s).live = s.live := by
  unfold startProbe; split <;> simp

@[simp] theorem fillLoads_live (s : State) : (fillLoads s).live = s.live := by
  unfold fillLoads
  split
  · exact foldl_live (fun t r => by simp) _ _
  · rfl

@[simp] theorem loadsComplete_live (s : State) : (loadsComplete s).live = s.live := by
  unfold loadsComplete; split <;> simp

@[simp] theorem uncalibrate_live (s : State) : (uncalibrate s).live = s.live :=
  forVoices_keeps (P := fun t => t.live = s.live) (fun _ _ h => h) rfl

@[simp] theorem probeEnds_live (status : Byte) (s : State) : (probeEnds status s).live = s.live := by
  have result (t : State) : (probeResult status t).live = t.live := by
    unfold probeResult; repeat' split
    all_goals simp
  simp [probeEnds, result]

@[simp] theorem calResult_live (u : VoiceIdx) (page : Vector Byte 64) (s : State) : (calResult u page s).live = s.live := by
  unfold calResult; split <;> simp

@[simp] theorem joinReady_live (s : State) : (joinReady s).live = s.live := by
  unfold joinReady; split <;> simp [enterLoading]

@[simp] theorem acceptSetup_live (p l t i : Byte) (s : State) : (acceptSetup p l t i s).live = s.live := by
  unfold acceptSetup; dsimp only; split <;> simp [holdSetup]

@[simp] theorem takeDefaults_live (s : State) : (takeDefaults s).live = s.live := rfl

@[simp] theorem leaveAnnounce_live (s : State) : (leaveAnnounce s).live = s.live := by
  unfold leaveAnnounce; repeat' split
  all_goals simp

@[simp] theorem tuneBeginEffect_live (t : Station) (own : Bool) (w : VoiceIdx) (r : Bool) (s : State) :
    (tuneBeginEffect t own w r s).live = s.live := by
  unfold tuneBeginEffect; dsimp only; repeat' split
  all_goals simp

@[simp] theorem tuneEndEffect_live (t : Station) (w : VoiceIdx) (s : State) : (tuneEndEffect t w s).live = s.live := by
  unfold tuneEndEffect; dsimp only; repeat' split
  all_goals simp

@[simp] theorem recallEffect_live (slot m : Byte) (s : State) : (recallEffect slot m s).live = s.live := by
  unfold recallEffect; repeat' split
  all_goals simp

@[simp] theorem storeEffect_live (slot : Byte) (s : State) : (storeEffect slot s).live = s.live := by
  unfold storeEffect; repeat' split
  all_goals simp

@[simp] theorem helloEffect_live (src : Station) (s : State) : (helloEffect src s).live = s.live := by
  unfold helloEffect; repeat' split
  all_goals simp [helloVoices]

@[simp] theorem checkHead_live (s : State) : (checkHead s).live = s.live := by
  have withdrawn (e : TxEntry) (t : State) : (withdrawnAtCheck e t).live = t.live := by
    unfold withdrawnAtCheck; repeat' split
    all_goals simp
  unfold checkHead
  split
  · rfl
  · exact foldl_live (fun t e => withdrawn e t) _ _

@[simp] theorem driveHead_live (s : State) : (driveHead s).live = s.live := by
  unfold driveHead; split <;> simp

@[simp] theorem requeue_live (n : Nat) (s : State) : (requeue n s).live = s.live := rfl

@[simp] theorem dropWithdrawn_live (e : TxEntry) (s : State) : (dropWithdrawn e s).live = s.live := by
  unfold dropWithdrawn endExpired; dsimp only; repeat' split
  all_goals simp

@[simp] theorem afterCollision_live (e : TxEntry) (s : State) : (afterCollision e s).live = s.live := by
  unfold afterCollision; repeat' split
  all_goals simp

@[simp] theorem loseAtCollision_live (e : TxEntry) (s : State) : (loseAtCollision e s).live = s.live := by
  simp [loseAtCollision, leaveLine]

@[simp] theorem countCollision_live (s : State) : (countCollision s).live = s.live := rfl

@[simp] theorem checkConsecutive_live (s : State) : (checkConsecutive s).live = s.live := by
  unfold checkConsecutive; split <;> simp

@[simp] theorem breakOff_live (found : FramingFault) (s : State) : (breakOff found s).live = s.live := rfl
@[simp] theorem followedFaulty_live (f : RawFrame) (s : State) : (followedFaulty f s).live = s.live := rfl

@[simp] theorem followEdge_live (l : Level) (s : State) : (followEdge l s).live = s.live := by
  unfold followEdge; split <;> rfl

@[simp] theorem portStep_live (i : SlotIdx) (w : WriteStep) (n : Nat) (s : State) : (portStep i w n s).live = s.live := rfl
@[simp] theorem beginAcquire_live (i : SlotIdx) (s : State) : (beginAcquire i s).live = s.live := rfl

@[simp] theorem reportMarks_live (i : SlotIdx) (f : Option Flight) (s : State) : (reportMarks i f s).live = s.live := by
  unfold reportMarks; dsimp only; repeat' split
  all_goals simp

@[simp] theorem countTimeout_live (i : SlotIdx) (s : State) : (countTimeout i s).live = s.live := by
  unfold countTimeout; split <;> simp

@[simp] theorem followed_live (s : State) : (followed s).live = s.live := rfl
@[simp] theorem ownTaken_live (e : TxEntry) (s : State) : (ownTaken e s).live = s.live := rfl

@[simp] theorem rivalEffect_live (r : Rival) (s : State) : (Rival.effect r s).live = s.live := by
  unfold Rival.effect hear; dsimp only; repeat' split
  all_goals simp

@[simp] theorem afterOperation_live (r : Rival) (s : State) : (afterOperation (Rival.effect r) s).live = s.live := by
  simp [afterOperation]

@[simp] theorem writeEnds_live (e : MemEntry) (r : Rival) (s : State) : (writeEnds e (Rival.effect r) s).live = s.live := by
  unfold writeEnds; dsimp only; split <;> simp

@[simp] theorem writeFails_live (e : MemEntry) (r : Rival) (s : State) : (writeFails e (Rival.effect r) s).live = s.live := by
  simp [writeFails]

@[simp] theorem stillBusy_live (rise polls : Nat) (r : Rival) (s : State) : (stillBusy rise polls r s).live = s.live := by
  unfold stillBusy; dsimp only; split <;> simp

@[simp] theorem resumeScheduler_live (before s : State) : (resumeScheduler before s).live = s.live := by
  unfold resumeScheduler; split <;> simp

@[simp] theorem applyRecorded_live (u : VoiceIdx) (s : State) : (applyRecorded u s).live = s.live := by
  unfold applyRecorded; dsimp only; split <;> simp

/-! ### Parameters in range (R143, R151) -/

/-- A parameter in range: its value lies from 0 to 1023, and its morph within that range with steps to make. -/
def ParamOk (q : Param) : Prop := q.value ≤ 1023 ∧ ∀ m, q.morph = some m → MorphOk m

theorem liveLaw_iff {s : State} : LiveLaw s ↔ ∀ p : Fin 16, ParamOk s.live[p] := Iff.rfl

theorem paramOk_settled {v : Nat} (h : v ≤ 1023) : ParamOk (.settled v) :=
  ⟨h, fun _ absent => by cases absent⟩

/-- A step stays within a bound that its morph's start and target lie within, as it stops at the target at the latest (R151). -/
theorem morphValue_le {a t j m bound : Nat} (ha : a ≤ bound) (ht : t ≤ bound) (hj : j ≤ m) : morphValue a t j m ≤ bound := by
  have moved : (a : Int) + (((t : Int) - a) * j).tdiv m ≤ bound := by
    by_cases rises : a ≤ t
    · have part : (t - a) * j / m ≤ t - a := Nat.div_le_of_le_mul (by rw [Nat.mul_comm m]; exact Nat.mul_le_mul_left _ hj)
      have rise : (((t : Int) - a) * j).tdiv m = ((t - a) * j / m : Nat) := by
        rw [← Int.ofNat_sub rises, ← Int.natCast_mul, Int.ofNat_tdiv]
      omega
    · have falls : 0 ≤ (((a : Int) - t) * j).tdiv m :=
        Int.tdiv_nonneg (Int.mul_nonneg (by omega) (Int.natCast_nonneg j)) (Int.natCast_nonneg m)
      have turned : (((t : Int) - a) * j).tdiv m = -(((a : Int) - t) * j).tdiv m := by
        rw [← Int.neg_tdiv, ← Int.neg_mul, Int.neg_sub]
      omega
  unfold morphValue
  omega

theorem paramOk_step {q : Param} (h : ParamOk q) : ParamOk q.step := by
  obtain ⟨value, morph⟩ := h
  unfold Param.step
  split
  case h_1 m hm =>
    obtain ⟨start, target, made⟩ := morph m hm
    refine ⟨morphValue_le start target made, fun r hr => ?_⟩
    dsimp only at hr
    split at hr
    case isTrue => cases hr
    case isFalse more =>
      cases hr
      exact ⟨start, target, Nat.lt_of_le_of_ne made more⟩
  case h_2 => exact ⟨value, morph⟩

theorem paramOk_morphTo {q : Param} {t ms m : Nat} (h : ParamOk q) (ht : t ≤ 1023) (hm : 0 < m) : ParamOk (q.morphTo t ms m) := by
  obtain ⟨value, -⟩ := h
  unfold Param.morphTo
  split
  case isTrue => exact ⟨value, fun _ absent => by cases absent⟩
  case isFalse =>
    refine ⟨value, fun r hr => ?_⟩
    cases hr
    exact ⟨value, ht, hm⟩

theorem aim_le {q : Param} (h : ParamOk q) : q.aim ≤ 1023 := by
  obtain ⟨value, morph⟩ := h
  unfold Param.aim
  split
  case h_1 m hm =>
    obtain ⟨-, target, -⟩ := morph m hm
    exact target
  case h_2 => exact value

/-- A stored value above 1023 reads as 1023 (R164). -/
theorem judgePatch_le {slot : PatchSlot} {page : Vector Byte 64} {v : Vector Nat 16} (h : judgePatch slot page = .valid v)
    (p : Fin 16) : v[p] ≤ 1023 := by
  unfold judgePatch at h
  split at h
  case isTrue => cases h
  case isFalse =>
    split at h
    case isTrue => cases h
    case isFalse =>
      cases h
      rw [Fin.getElem_fin, Vector.getElem_ofFn]
      exact Nat.min_le_right _ _

/-! ### The operations that change the live table keep it in range -/

/-- The law is read off the live table. -/
theorem liveLaw_congr {s t : State} (h : LiveLaw s) (same : t.live = s.live) : LiveLaw t := by
  unfold LiveLaw
  rwa [same]

theorem liveLaw_updParam {p : Fin 16} {f : Param → Param} {s : State} (h : LiveLaw s) (hf : ParamOk (f s.live[p])) :
    LiveLaw (updParam p f s) := by
  refine liveLaw_iff.mpr fun q => ?_
  have upd := updAt_getElem s.live p q f
  rw [← updParam_live] at upd
  rw [upd]
  split
  · exact hf
  · exact h q

theorem liveLaw_applyParam {p : Fin 16} {x : BitVec 16} {s : State} (h : LiveLaw s) : LiveLaw (applyParam p x s) := by
  have clamped : ParamOk (Param.settled (clampParam x)) := paramOk_settled (Nat.min_le_right x.toNat 1023)
  have set : LiveLaw (updParam p (fun _ => Param.settled (clampParam x)) s) := liveLaw_updParam h clamped
  exact liveLaw_congr set (by simp [applyParam])

theorem liveLaw_knobEffect {b : Bool} {k : Byte} {x : BitVec 16} {s : State} (h : LiveLaw s) : LiveLaw (knobEffect b k x s) := by
  unfold knobEffect
  split
  case isFalse => exact h
  case isTrue =>
    split
    case h_2 => exact h
    case h_1 p _ =>
      have applied : LiveLaw (applyParam p x s) := liveLaw_applyParam h
      dsimp only
      split
      · exact liveLaw_congr applied (uncatch_live p _)
      · exact applied

theorem liveLaw_setLive {v : Vector Nat 16} (h : ∀ p : Fin 16, v[p] ≤ 1023) (s : State) : LiveLaw (setLive v s) := by
  refine liveLaw_iff.mpr fun p => ?_
  have value : (setLive v s).live[p] = Param.settled v[p] := by simp [setLive]
  rw [value]
  exact paramOk_settled (h p)

theorem liveLaw_recallMorph {m : Nat} {v : Vector Nat 16} {s : State} (h : LiveLaw s) (hv : ∀ p : Fin 16, v[p] ≤ 1023)
    (hm : 0 < m) : LiveLaw (recallMorph m v s) := by
  have begun : LiveLaw { s with live := Vector.ofFn fun p => s.live[p].morphTo v[p] s.ms m } := by
    refine liveLaw_iff.mpr fun p => ?_
    dsimp only
    rw [Fin.getElem_fin, Vector.getElem_ofFn]
    exact paramOk_morphTo (h p) (hv p) hm
  exact liveLaw_congr begun (foldl_live (fun t p => uncatch_live p t) _ _)

theorem liveLaw_recallApply {m : Byte} {v : Vector Nat 16} {s : State} (h : LiveLaw s) (hv : ∀ p : Fin 16, v[p] ≤ 1023) :
    LiveLaw (recallApply m v s) := by
  unfold recallApply
  split
  case isTrue => exact liveLaw_congr (liveLaw_setLive hv s) ((foldl_live (fun t p => uncatch_live p t) _ _).trans (by simp))
  case isFalse timed => exact liveLaw_recallMorph h hv (Nat.pos_of_ne_zero fun zero => timed (BitVec.eq_of_toNat_eq zero))

theorem liveLaw_recallResult {slot : PatchSlot} {m : Byte} {page : Vector Byte 64} {s : State} (h : LiveLaw s) :
    LiveLaw (recallResult slot m page s) := by
  unfold recallResult
  split
  case isTrue => exact h
  case isFalse =>
    split
    case h_1 => exact liveLaw_congr h (by simp)
    case h_2 => exact liveLaw_congr h (by simp)
    case h_3 valid =>
      split
      case isTrue => exact liveLaw_setLive (judgePatch_le valid) s
      case isFalse => exact liveLaw_recallApply h (judgePatch_le valid)

theorem liveLaw_readEnds {e : MemEntry} {page : Vector Byte 64} {r : Rival} {s : State} (h : LiveLaw s) :
    LiveLaw (readEnds e page (Rival.effect r) s) := by
  have finished : LiveLaw (finishOperation s) := h
  have read : LiveLaw (readResult e page (finishOperation s)) := by
    unfold readResult
    split
    case isTrue => exact finished
    case isFalse =>
      split
      case h_1 => exact liveLaw_recallResult finished
      case h_2 => exact liveLaw_congr finished (by simp)
      case h_3 => exact finished
      case h_4 => exact finished
  exact liveLaw_congr read (afterOperation_live r _)

theorem liveLaw_stepGroup {ps : List (Fin 16)} {s : State} (h : LiveLaw s) : LiveLaw (stepGroup ps s) := by
  have stepped : LiveLaw (ps.foldl (fun t p => updParam p Param.step t) s) :=
    foldl_keeps (fun t p ht => liveLaw_updParam ht (paramOk_step (ht p))) h
  exact liveLaw_congr stepped ((foldl_live (fun t p => followStep_live p t) _ _).trans (by simp))

/-- A Restart settles every parameter where its morph was going (R40). -/
theorem liveLaw_settleLive {s : State} (h : LiveLaw s) : LiveLaw (settleLive s) := by
  refine liveLaw_iff.mpr fun p => ?_
  have value : (settleLive s).live[p] = Param.settled s.live[p].aim := by simp [settleLive]
  rw [value]
  exact paramOk_settled (aim_le (h p))

theorem liveLaw_restart {s : State} (h : LiveLaw s) : LiveLaw (restart s) := by
  have settled := liveLaw_settleLive h
  have posted (t : State) : (if t.start.loadsDone then fullPostAll t else t).live = t.live := by split <;> simp
  exact liveLaw_congr settled ((posted _).trans (by simp [stopScanner, settleLive, restartTune, restartVoices]))

theorem liveLaw_finish {before s : State} (h : LiveLaw s) : LiveLaw (finish before s) :=
  liveLaw_congr h (by simp)

theorem liveLaw_reset : LiveLaw State.reset := by
  have settled : ∀ p : Fin 16, State.reset.live[p].value ≤ 1023 ∧ State.reset.live[p].morph = none := by decide
  exact fun p => ⟨(settled p).1, fun m hm => by rw [(settled p).2] at hm; cases hm⟩

/-! ### Taken frames -/

theorem liveLaw_takeFrame {effect : State → State} {s : State} (h : LiveLaw s) (he : ∀ t, LiveLaw t → LiveLaw (effect t)) :
    LiveLaw (takeFrame effect s) := by
  have heard : LiveLaw (hear effect s) := by
    unfold hear
    dsimp only
    split
    · exact he _ h
    · exact h
  unfold takeFrame
  split
  · exact liveLaw_finish heard
  · exact h

/-- A frame whose effect leaves the live table alone. -/
theorem liveLaw_takeFrame_same {effect : State → State} {s : State} (h : LiveLaw s) (he : ∀ t, (effect t).live = t.live) :
    LiveLaw (takeFrame effect s) :=
  liveLaw_takeFrame h fun t ht => liveLaw_congr ht (he t)

theorem liveLaw_takeOwnFrame {f : Frame} {effect : Bool → State → State} {s : State} (h : LiveLaw s)
    (he : ∀ b t, LiveLaw t → LiveLaw (effect b t)) : LiveLaw (takeOwnFrame f effect s) := by
  unfold takeOwnFrame
  split
  case h_2 => exact h
  case h_1 e _ =>
    split
    case isFalse => exact h
    case isTrue =>
      have taken : LiveLaw (ownTaken e s) := h
      dsimp only
      split
      · exact liveLaw_finish (he e.withdrawn _ taken)
      · exact liveLaw_finish taken

/-- The station's own frame with an effect that leaves the live table alone. -/
theorem liveLaw_takeOwnFrame_same {f : Frame} {effect : Bool → State → State} {s : State} (h : LiveLaw s)
    (he : ∀ b t, (effect b t).live = t.live) : LiveLaw (takeOwnFrame f effect s) :=
  liveLaw_takeOwnFrame h fun b t ht => liveLaw_congr ht (he b t)

theorem liveLaw_ownEffect {f : Frame} {b : Bool} {s : State} (h : LiveLaw s) : LiveLaw (ownEffect f b s) := by
  unfold ownEffect
  split
  case h_4 => exact liveLaw_knobEffect h
  all_goals exact liveLaw_congr h (by simp)

/-! ### Every step keeps the law -/

/-- Whatever next state the outcome gives has its live table in range. -/
def LawAfter (o : Host.Outcome State Fault Refusal) : Prop := ∀ t, o = .next t → LiveLaw t

@[simp] theorem lawAfter_next {t : State} : LawAfter (.next t) ↔ LiveLaw t := by simp [LawAfter]

/-- The next state has the live table of s. -/
theorem lawAfter_same {s t : State} (h : LiveLaw s) (same : t.live = s.live) : LawAfter (.next t) :=
  lawAfter_next.mpr (liveLaw_congr h same)

theorem liveLaw_exec {s : State} (h : LiveLaw s) (i : Instr) : LawAfter (exec i s) := by
  cases i with
  -- The commands that change the live table
  | powerOnReset => exact lawAfter_next.mpr (liveLaw_congr liveLaw_reset rfl)
  | param =>
    refine lawAfter_next.mpr (liveLaw_takeFrame h fun t ht => ?_)
    repeat' split
    · exact liveLaw_congr (liveLaw_applyParam ht) (uncatch_live _ _)
    · exact ht
    · exact ht
  | knob origin =>
    cases origin with
    | own => exact lawAfter_next.mpr (liveLaw_takeOwnFrame h fun _ _ => liveLaw_knobEffect)
    | line => exact lawAfter_next.mpr (liveLaw_takeFrame h fun _ => liveLaw_knobEffect)
  | ownFrameTaken =>
    simp only [exec, execOwnFrameTaken]
    split
    · exact lawAfter_next.mpr (liveLaw_takeOwnFrame h fun _ _ => liveLaw_ownEffect)
    · exact lawAfter_next.mpr h
  | restart =>
    have heard : LiveLaw (followed s) := h
    simp only [exec, execRestart]
    repeat' split
    · exact lawAfter_same (liveLaw_restart heard) (by simp)
    · exact lawAfter_same h (by simp)
    · exact lawAfter_next.mpr h
  | pageReadComplete =>
    simp only [exec, execPageReadComplete]
    split
    case h_1 ends e _ _ _ =>
      have ended : LiveLaw (advanceTo ends s) := h
      exact lawAfter_next.mpr (liveLaw_finish (liveLaw_readEnds ended))
    case h_2 => exact lawAfter_next.mpr h
  | morphStep =>
    simp only [exec, execMorphStep]
    split
    case h_1 m _ =>
      have due : LiveLaw (advanceTo (m.due * 1000) s) := h
      exact lawAfter_next.mpr (liveLaw_finish (liveLaw_stepGroup due))
    case h_2 => exact lawAfter_next.mpr h
  -- Frames of other transmitters, and the station's own
  | noteOn | sustain | allNotesOff | otherClaimTaken | bend | setup | query | tuneRequest | tuneStop =>
    exact lawAfter_next.mpr (liveLaw_takeFrame_same h fun t => by split <;> simp)
  | noteOff | store => exact lawAfter_next.mpr (liveLaw_takeFrame_same h fun t => by simp)
  | ownClaimTaken => exact lawAfter_next.mpr (liveLaw_takeOwnFrame_same h fun _ t => by simp)
  | switchTaken origin | reportTaken origin | hello origin | tuneBegin origin | tuneEnd origin =>
    cases origin with
    | own => exact lawAfter_next.mpr (liveLaw_takeOwnFrame_same h fun _ t => by simp)
    | line => exact lawAfter_next.mpr (liveLaw_takeFrame_same h fun t => by simp)
  -- The line, the strap slots and the join timers
  | resetEnd | strapSlotEnd | listenTimerExpiry | setupTimerExpiry | transmitStart | lostArbitration | collision | framingError
  | frameDiscarded | startBitReceived =>
    simp only [exec, execResetEnd, execStrapSlotEnd, execListenTimerExpiry, execSetupTimerExpiry, execTransmitStart,
      execLostArbitration, execCollision, execFramingError, execFrameDiscarded, execStartBitReceived]
    repeat' split
    all_goals exact lawAfter_same h (by simp [beginSlot, endSensing])
  -- The voice timers and the tune timers
  | gapTimerExpiry | minimumGateExpiry | releaseTimerExpiry | claimTimeout | glideStep | settleTimerExpiry | tinFirstEdge
  | refreshTimerExpiry | countEnd | startLimitExpiry | countOverflow =>
    simp only [exec, execGapTimerExpiry, execMinimumGateExpiry, execReleaseTimerExpiry, execClaimTimeout, execGlideStep,
      execSettleTimerExpiry, execTinFirstEdge, execRefreshTimerExpiry, execCountEnd, execStartLimitExpiry, execCountOverflow]
    repeat' split
    all_goals exact lawAfter_same h (by simp)
  -- The ports and the panel
  | slotAgeThreshold | drdyReady | writeComplete | holdEnd | drdyTimeout | bankChangeGapEnd | dldPulseEnd | probeComplete | writePoll
  | pageWriteCommandEnd | knobRoundStart | knobSampleEnd | matrixRowEnd =>
    simp only [exec, execSlotAgeThreshold, execDrdyReady, execWriteComplete, execHoldEnd, execDrdyTimeout, execBankChangeGapEnd,
      execDldPulseEnd, execProbeComplete, execWritePoll, execPageWriteCommandEnd, execKnobRoundStart, execKnobSampleEnd,
      execMatrixRowEnd]
    repeat' split
    all_goals exact lawAfter_same h (by simp [beginRound])
  -- The one command left is RECALL, whose constructor's name is a keyword here
  | _ => exact lawAfter_next.mpr (liveLaw_takeFrame_same h (recallEffect_live _ _))

/-- Settles O57: what changes the live table keeps every parameter in range, and every other operation leaves the table alone. -/
theorem liveValuesStayInRange : Obligations.LiveValuesStayInRange := by
  intro s t h run
  unfold step at run
  split at run
  case h_1 =>
    cases run
    exact h
  case h_2 c rest _ =>
    have front : LiveLaw (s.withPending rest) := h
    exact liveLaw_exec front c t run

/-! ### The end of an event of the Patch Unit -/

/-- Where the loss notices and the sequencer are as a settled state left them, the event ends with a selection at most. -/
theorem finish_of_settled {before s t : State} (hs : Settled s) (notices : t.link.notices = s.link.notices)
    (tune : t.tune = s.tune) : finish before t = selectIfPosted t := by
  obtain ⟨noNotice, seq, -⟩ := hs
  exact finish_select (notices.trans noNotice) (by rwa [tune])

/-- A frame that the station takes and ignores moves its place in the line only (R5). -/
theorem takeFrame_ignored {effect : State → State} {s : State} (hs : Settled s) (hc : canReceive s = true)
    (hf : following s = true) (he : effect (followed s) = followed s) :
    takeFrame effect s = { s with link := { s.link with place := .inPlace s.now } } := by
  have settled : Settled (followed s) := settled_congr hs rfl rfl rfl rfl
  rw [takeFrame_settled hc (dispatching_of_following hf) (by rwa [he]), he]
  rfl

/-! ### PARAM (R144, R145) -/

theorem eq_byteOf {b : Byte} {n : Nat} (h : b.toNat = n) : b = byteOf n := by
  subst h
  exact BitVec.eq_of_toNat_eq (by simp [byteOf])

/-- Nothing but the queue, the knob records, the live table and what the recomputation posts has changed (R134, R145). -/
theorem paramEffect_keeps (p : Fin 16) (x : BitVec 16) (s : State) : ∃ queue t, uncatch p (applyParam p x s) = t ∧
    t.link = { s.link with queue := queue } ∧ t.live = updAt s.live p (fun _ => ⟨min x.toNat 1023, none⟩) ∧
    t.voices = s.voices ∧ t.gates = s.gates ∧ t.claims = s.claims ∧ t.sources = s.sources ∧ t.tune = s.tune ∧
    t.mem = s.mem ∧ t.eeprom = s.eeprom ∧ t.calib = s.calib ∧ t.start = s.start ∧ t.panel.switches = s.panel.switches := by
  obtain ⟨queue, knobs, frame⟩ := uncatch_frame p (applyParam p x s)
  refine ⟨queue, _, frame, ?_⟩
  simp [applyParam, Param.settled, clampParam]

/-- Settles O20: the live value is set and its codes are recomputed, then the scanner uncatches the knob; the event ends with a selection
at most. -/
theorem paramSetsLiveValue : Obligations.ParamSetsLiveValue := by
  intro s src b x hs hc hf
  refine ⟨fun p hb => ?_, fun above => ?_⟩
  · obtain ⟨queue, t, effect, link, live, voices, gates, claims, sources, tune, mem, eeprom, calib, start, switches⟩ :=
      paramEffect_keeps p x (followed s)
    have run := exec_param (p := p) (src := src) (x := x) hc hf
    rw [effect, finish_of_settled hs (by rw [link]; rfl) tune, ← eq_byteOf hb] at run
    refine ⟨_, run, ?_⟩
    simp only [selectIfPosted_keeps]
    exact ⟨live, voices, gates, claims, sources, tune, mem, eeprom, calib, start, by rw [link]; rfl, switches⟩
  · have noParam : paramIndex b = none := dif_neg (Nat.not_lt.mpr above)
    exact congrArg _ (takeFrame_ignored hs hc hf (by rw [noParam]; exact ite_self _))

/-! ### MORPH_STEP (R151) -/

/-- Each parameter of the list is stepped once. -/
theorem foldl_updParam_live {ps : List (Fin 16)} (distinct : ps.Nodup) (f : Param → Param) (s : State) (p : Fin 16) :
    (ps.foldl (fun t q => updParam q f t) s).live[p] = if p ∈ ps then f s.live[p] else s.live[p] := by
  induction ps generalizing s with
  | nil => rfl
  | cons q ps ih =>
    obtain ⟨fresh, distinct⟩ := List.nodup_cons.mp distinct
    have upd := updAt_getElem s.live q p f
    rw [← updParam_live] at upd
    rw [List.foldl_cons, ih distinct, upd]
    by_cases hp : p = q
    · subst hp
      simp [fresh]
    · simp [hp]

/-- The steps of a group change the live table, the knob records, and what the recomputation posts (R135, R151). -/
theorem stepGroup_keeps (ps : List (Fin 16)) (s : State) : ∃ t, stepGroup ps s = t ∧
    t.live = (ps.foldl (fun w p => updParam p Param.step w) s).live ∧ t.now = s.now ∧ t.link = s.link ∧ t.tune = s.tune ∧
    t.voices = s.voices ∧ t.gates = s.gates ∧ t.sources = s.sources ∧ t.mem = s.mem ∧ t.eeprom = s.eeprom := by
  refine ⟨_, rfl, ?_⟩
  unfold stepGroup
  have stepped := foldl_keeps (P := fun t => t.now = s.now ∧ t.link = s.link ∧ t.tune = s.tune ∧ t.voices = s.voices ∧
    t.gates = s.gates ∧ t.sources = s.sources ∧ t.mem = s.mem ∧ t.eeprom = s.eeprom)
    (f := fun t p => updParam p Param.step t) (l := ps) (fun t p h => h) ⟨rfl, rfl, rfl, rfl, rfl, rfl, rfl, rfl⟩
  generalize ps.foldl (fun t p => updParam p Param.step t) s = w at *
  refine foldl_keeps (P := fun t => t.live = w.live ∧ t.now = s.now ∧ t.link = s.link ∧ t.tune = s.tune ∧
    t.voices = s.voices ∧ t.gates = s.gates ∧ t.sources = s.sources ∧ t.mem = s.mem ∧ t.eeprom = s.eeprom)
    (fun t p h => ?_) (by simpa using stepped)
  obtain ⟨knobs, frame⟩ := followStep_frame p t
  rw [frame]
  exact h

theorem nodup_morphGroup (t0 : Nat) (live : Vector Param 16) : (morphGroup t0 live).Nodup :=
  (List.nodup_finRange 16).filter _

/-- Settles O23: the group is stepped once each, and the event ends with a selection at most. -/
theorem morphStepMovesGroup : Obligations.MorphStepMovesGroup := by
  intro s q r hs hq least
  have run : exec .morphStep s =
      .next (finish s (stepGroup (morphGroup r.startTime s.live) (advanceTo (r.due * 1000) s))) := by
    simp only [exec, execMorphStep, firstMorph_of_least hq least]
  obtain ⟨t, stepped, live, now, link, tune, voices, gates, sources, mem, eeprom⟩ :=
    stepGroup_keeps (morphGroup r.startTime s.live) (advanceTo (r.due * 1000) s)
  have table := foldl_updParam_live (nodup_morphGroup r.startTime s.live) Param.step (advanceTo (r.due * 1000) s)
  rw [← live] at table
  rw [stepped, finish_of_settled hs (by rw [link]; rfl) tune] at run
  refine ⟨_, run, ?_⟩
  simp only [selectIfPosted_keeps]
  refine ⟨now, fun p m hm same => ?_, fun p other => ?_, voices, gates, sources, mem, eeprom⟩
  · have moved : t.live[p] = s.live[p].step := (table p).trans (if_pos (mem_morphGroup.mpr ⟨m, hm, same⟩))
    rw [moved, Param.step, hm]
    exact ⟨rfl, rfl⟩
  · refine (table p).trans (if_neg fun member => ?_)
    obtain ⟨m, hm, same⟩ := mem_morphGroup.mp member
    exact other m hm same

/-! ### RECALL and STORE (R147, R152, R161) -/

theorem slotIndex_of_val {b : Byte} {slot : PatchSlot} (h : b.toNat = slot.val) : slotIndex b = some slot := by
  have inRange : b.toNat < 64 := h ▸ slot.isLt
  rw [slotIndex, below, dif_pos inRange]
  exact congrArg some (Fin.ext h)

/-- An idle port begins with the request that joins an empty queue (R162). -/
theorem joins_frame (r : MemReq) (s : State) : ∃ port pins,
    beginService (joinQueue r s) =
      { s with mem := { s.mem with queue := s.mem.queue ++ [⟨r, false⟩], port := port }, pins := pins } ∧
    (s.mem.port = .idle → s.mem.queue = [] → port = if r.isWrite then .writing (s.now + 137) else .reading (s.now + 134)) := by
  unfold beginService
  split
  case h_1 e rest idle queue =>
    refine ⟨_, _, rfl, fun _ empty => ?_⟩
    have first : e.req = r := by
      simp only [joinQueue, updMem, empty, List.nil_append, List.cons.injEq] at queue
      rw [← queue.1]
    rw [first]
    rfl
  case h_2 other => exact ⟨_, _, rfl, fun idle empty => absurd (other ⟨r, false⟩ [] idle (by simp [joinQueue, empty])) id⟩

/-- The port that serves goes on with its operation (R162). -/
theorem beginService_serving {s : State} (h : s.mem.port.serving = true) : beginService s = s := by
  unfold beginService
  split
  case h_1 idle _ =>
    rw [idle] at h
    cases h
  case h_2 => rfl

/-- A Report MEMORY is queued behind the frames of its field (R19, R197). -/
theorem memoryReport_room (code : MemCode) (page : Nat) {s : State} (ht : txEnabled s = true) (hl : s.link.queue.length < 16) :
    memoryReport code page s = { s with
      link := enterFrame (.report .memory code.code [byteOf page]) (14336 + (stationId s).val) s.link } := by
  have field : arbField 7 0 (stationId s).val = 14336 + (stationId s).val := by
    unfold arbField
    omega
  rw [← field]
  exact hand_room ht hl (by simp)

section
variable {s : State} (src : Station) {b : Byte} (m : Byte) {slot : PatchSlot} (hc : canReceive s = true)
  (hf : following s = true)
include hc hf

/-- A slot above 63 names nothing (R147, R152). -/
theorem exec_recall_store_ignored (hs : Settled s) (above : 64 ≤ b.toNat) :
    exec (.recall src b m) s = .next { s with link := { s.link with place := .inPlace s.now } } ∧
      exec (.store src b) s = .next { s with link := { s.link with place := .inPlace s.now } } := by
  have noSlot : slotIndex b = none := dif_neg (Nat.not_lt.mpr above)
  constructor
  · exact congrArg _ (takeFrame_ignored hs hc hf (by rw [recallEffect, noSlot]; exact ite_self _))
  · exact congrArg _ (takeFrame_ignored hs hc hf (by rw [storeEffect, noSlot]; exact ite_self _))

/-- A Recall hands a RECALL-READ over; the event ends there when that leaves the station settled (R147). -/
theorem exec_recall (hb : b.toNat = slot.val) {t : State} (effect : memRequest (.recallRead slot m) (followed s) = t)
    (settled : Settled t) : exec (.recall src b m) s = .next t := by
  have handed : recallEffect b m (followed s) = t := by
    rw [recallEffect, slotIndex_of_val hb, ← effect]
    exact if_pos hf
  rw [← handed] at settled ⊢
  exact congrArg _ (takeFrame_settled hc (dispatching_of_following hf) settled)

/-- A Store hands over a STORE-WRITE of the snapshot (R152). -/
theorem exec_store (hb : b.toNat = slot.val) {t : State} (effect : memRequest (.storeWrite slot (snapshot s)) (followed s) = t)
    (settled : Settled t) : exec (.store src b) s = .next t := by
  have handed : storeEffect b (followed s) = t := by
    rw [storeEffect, slotIndex_of_val hb, ← effect]
    exact if_pos hf
  rw [← handed] at settled ⊢
  exact congrArg _ (takeFrame_settled hc (dispatching_of_following hf) settled)

end
/-- With room in the queue and no recall to replace, the request joins at the tail, and nothing but the memory's items and pins
changes (R161, R162). -/
theorem memRequest_joins {r : MemReq} {s : State} (hs : Settled s) (h : memAnswer r s.mem = .joins) :
    ∃ t, memRequest r (followed s) = t ∧ Settled t ∧ t.mem.queue = s.mem.queue ++ [⟨r, false⟩] ∧
      (s.mem.port = .idle → s.mem.queue = [] →
        t.mem.port = if r.isWrite then .writing (s.now + 137) else .reading (s.now + 134)) ∧
      t = { s with link := { s.link with place := .inPlace s.now }, mem := t.mem, pins := t.pins } := by
  have answer : memAnswer r (followed s).mem = .joins := h
  obtain ⟨port, pins, joined, begun⟩ := joins_frame r (followed s)
  rw [memRequest, answer]
  exact ⟨_, joined, settled_congr hs rfl rfl rfl rfl, rfl, begun, rfl⟩

/-- The frame taken, and one Report MEMORY queued under the page (R161, R197). -/
def withReport (s : State) (code : Byte) (page : Nat) : State :=
  { s with
    link := enterFrame (.report .memory code [byteOf page]) (14336 + (stationId s).val)
      { s.link with place := .inPlace s.now } }

theorem withReport_settled {s : State} (hs : Settled s) (code : Byte) (page : Nat) : Settled (withReport s code page) :=
  settled_congr hs rfl rfl rfl rfl

theorem txEnabled_of_following {s : State} (h : following s = true) : txEnabled s = true := dispatching_of_following h

/-- A request that is refused or dropped leaves one Report (R161). -/
theorem memRequest_reports {r : MemReq} {s : State} {code : MemCode} (hf : following s = true) (hl : s.link.queue.length < 16)
    (h : memAnswer r s.mem = .refused code ∨ memAnswer r s.mem = .dropped code) :
    memRequest r (followed s) = withReport s code.code r.page := by
  have report : memoryReport code r.page (followed s) = withReport s code.code r.page :=
    memoryReport_room code r.page (s := followed s) (txEnabled_of_following hf) hl
  have same : memAnswer r (followed s).mem = memAnswer r s.mem := rfl
  unfold memRequest
  rcases h with h | h <;> rw [same, h] <;> exact report

/-- A Recall takes the place of the one unstarted recall, which is reported, behind an operation that goes on (R161). -/
theorem memRequest_replaces {s : State} {slot old : PatchSlot} {m m' : Byte} {e x : MemEntry} {front back : List MemEntry}
    (hf : following s = true) (hl : s.link.queue.length < 16) (present : s.mem.status = .present)
    (serving : s.mem.port.serving = true) (queue : s.mem.queue = e :: front ++ x :: back) (hx : x.req = .recallRead old m')
    (others : ∀ y ∈ front ++ back, y.req.isRecall = false) :
    memRequest (.recallRead slot m) (followed s) =
      { withReport s 2 old.val with
        mem := { s.mem with queue := e :: front ++ back ++ [⟨.recallRead slot m, false⟩] } } := by
  obtain ⟨waiting, dropped⟩ := waitingRecall_split serving queue (by rw [hx]; rfl) others
  have answer : memAnswer (.recallRead slot m) (followed s).mem = .replaces x.req := memAnswer_replaces present rfl waiting
  have removed : updMem dropRecall (followed s) = { followed s with mem := { s.mem with queue := e :: front ++ back } } :=
    congrArg (fun mem => { followed s with mem := mem }) dropped
  have enabled : txEnabled (updMem dropRecall (followed s)) = true := txEnabled_of_following hf
  have page : x.req.page = old.val := by rw [hx]; rfl
  rw [memRequest, answer]
  dsimp only
  rw [page, memoryReport_room (s := updMem dropRecall (followed s)) _ _ enabled hl, removed, beginService_serving]
  · rfl
  · exact serving

/-- Settles O22: each answer of R161 is one case; a request that joins or is reported leaves the station settled. -/
theorem recallAndStoreJoinQueue : Obligations.RecallAndStoreJoinQueue := by
  intro s src b m hs hc hf
  refine ⟨exec_recall_store_ignored src m hc hf hs, fun slot hb present room => ⟨fun noRecall => ?_, ?_⟩, fun slot hb hl => ?_⟩
  · obtain ⟨t, effect, settled, queue, begun, frame⟩ :=
      memRequest_joins (r := .recallRead slot m) hs (memAnswer_joins present (fun _ => noRecall) room)
    exact ⟨t, exec_recall src m hc hf hb effect settled, queue, begun, frame⟩
  · obtain ⟨t, effect, settled, queue, begun, frame⟩ :=
      memRequest_joins (r := .storeWrite slot (snapshot s)) hs (memAnswer_joins present (fun h => by cases h) room)
    exact ⟨t, snapshot s, exec_store src hc hf hb effect settled, queue, fun _ => Vector.getElem_map _ _, begun, frame⟩
  · have recallReported {code : MemCode} (h : memAnswer (.recallRead slot m) s.mem = .refused code ∨
        memAnswer (.recallRead slot m) s.mem = .dropped code) :
        exec (.recall src b m) s = .next (withReport s code.code slot.val) :=
      exec_recall src m hc hf hb (memRequest_reports hf hl h) (withReport_settled hs _ _)
    have storeReported {code : MemCode} (h : memAnswer (.storeWrite slot (snapshot s)) s.mem = .refused code ∨
        memAnswer (.storeWrite slot (snapshot s)) s.mem = .dropped code) :
        exec (.store src b) s = .next (withReport s code.code slot.val) :=
      exec_store src hc hf hb (memRequest_reports hf hl h) (withReport_settled hs _ _)
    refine ⟨fun absent => ?_, fun failed => ?_, fun e x front back old m' present serving queue hx others => ?_,
      fun present full => ⟨fun noRecall => ?_, ?_⟩⟩
    · exact ⟨recallReported (.inl (memAnswer_absent absent)), storeReported (.inl (memAnswer_absent absent))⟩
    · exact ⟨recallReported (.inl (memAnswer_failed failed)), storeReported (.inl (memAnswer_failed failed))⟩
    · exact exec_recall src m hc hf hb (memRequest_replaces hf hl present serving queue hx others)
        (settled_congr hs rfl rfl rfl rfl)
    · exact recallReported (.inr (memAnswer_full present (fun _ => noRecall) full))
    · exact storeReported (.inr (memAnswer_full present (fun h => by cases h) full))

end Sys2Proof.LivePatch
end

section
/-!
Patch and calibration memory (09): what the pages of a Store and of a tune read back as (R164 to R166), and how a page write ends, with
the request that takes its place in the queue (R162, R166, R167, R188).
-/
namespace Sys2Proof.MemoryPages
open Sys2Proof Sys2Proof.Machine Sys2Proof.Safety
open Sys2Proof.ClaimRounds Sys2Proof.PanelScanning Sys2Proof.LivePatch

/-! ### What a closed page reads back (R164 to R166) -/

theorem ofTwoBytes_hiByte_loByte (w : BitVec 16) : ofTwoBytes (hiByte w) (loByte w) = w := by
  unfold ofTwoBytes hiByte loByte
  exact (BitVec.extractLsb'_append_extractLsb'_eq_extractLsb' rfl).trans BitVec.extractLsb'_eq_self

theorem length_flatMap_twoBytes (ws : List (BitVec 16)) : (ws.flatMap twoBytes).length = 2 * ws.length := by
  induction ws with
  | nil => rfl
  | cons w ws ih =>
    have two : (twoBytes w).length = 2 := rfl
    rw [List.flatMap_cons, List.length_append, List.length_cons, ih, two]
    omega

/-- The k-th of some numbers written high byte first, whatever is written after them. -/
theorem getD_twoBytes {ws : List (BitVec 16)} {k : Nat} (h : k < ws.length) (post : List Byte) :
    (ws.flatMap twoBytes ++ post).getD (2 * k) 0 = hiByte ws[k] ∧
      (ws.flatMap twoBytes ++ post).getD (2 * k + 1) 0 = loByte ws[k] := by
  induction ws generalizing k with
  | nil => cases h
  | cons w ws ih =>
    cases k with
    | zero => exact ⟨rfl, rfl⟩
    | succ k => exact ih (Nat.lt_of_succ_lt_succ h)

theorem getD_append_add (pre post : List Byte) (k : Nat) : (pre ++ post).getD (pre.length + k) 0 = post.getD k 0 := by
  rw [List.getD_eq_getElem?_getD, List.getD_eq_getElem?_getD, List.getElem?_append_right (Nat.le_add_right _ _),
    Nat.add_sub_cancel_left]

/-- The CRC is not taken over the byte that holds it (R164). -/
theorem pageCrc_set (page : Vector Byte 64) (c : Byte) : pageCrc (page.set 63 c) = pageCrc page := by
  unfold pageCrc
  rw [Vector.toList_set, List.take_set_of_le (Nat.le_refl 63)]

/-- A closed page carries its own CRC (R166). -/
theorem pageCrc_closePage (content : List Byte) : pageCrc (closePage content) = pageAt (closePage content) 63 := by
  unfold closePage
  rw [pageCrc_set]
  exact (Vector.getElem_set_self _).symm

theorem pageAt_closePage (content : List Byte) {i : Nat} (h : i < 63) : pageAt (closePage content) i = content.getD i 0 := by
  have here : min i 63 = i := Nat.min_eq_left (Nat.le_of_lt h)
  unfold pageAt closePage
  simp only [here]
  rw [Vector.getElem_set_ne _ _ (Nat.ne_of_gt h), Vector.getElem_ofFn, if_pos h]

/-- A byte among the contents of a page is read at its place. -/
theorem pageAt_byte (pre post : List Byte) (b : Byte) {i : Nat} (place : i = pre.length) (h : i < 63) :
    pageAt (closePage (pre ++ b :: post)) i = b := by
  rw [pageAt_closePage _ h, place]
  exact getD_append_add pre (b :: post) 0

/-- A number among the contents of a page is read at its place, high byte first. -/
theorem pageWord_twoBytes {m : Nat} (pre post : List Byte) (ws : Vector (BitVec 16) m) (k : Fin m) {i : Nat}
    (place : i = pre.length + 2 * k.val) (h : i + 1 < 63) :
    pageWord (closePage (pre ++ (ws.toList.flatMap twoBytes ++ post))) i = ws[k] := by
  have listed : k.val < ws.toList.length := by rw [Vector.length_toList]; exact k.isLt
  obtain ⟨hi, lo⟩ := getD_twoBytes listed post
  rw [pageWord, pageAt_closePage _ h, pageAt_closePage _ (Nat.lt_of_succ_lt h), place, Nat.add_assoc, getD_append_add,
    getD_append_add, hi, lo, ofTwoBytes_hiByte_loByte]
  rfl

/-- The numbers of a patch page are the snapshot values, after the marker and the slot (R166). -/
theorem patchPage_eq (slot : PatchSlot) (v : Vector Nat 16) : patchPage slot v =
    closePage ([0x5A, byteOf slot.val] ++ ((v.map (BitVec.ofNat 16)).toList.flatMap twoBytes ++ [])) := by
  rw [patchPage, List.append_nil, Vector.toList_map, List.flatMap_map]
  rfl

/-- A patch page read for its own slot gives the values it was made from (R164, R166). -/
theorem judgePatch_patchPage {slot : PatchSlot} {v : Vector Nat 16} (hv : ∀ p : Fin 16, v[p] ≤ 1023) :
    judgePatch slot (patchPage slot v) = .valid v := by
  have marker : pageAt (patchPage slot v) 0 = 0x5A := pageAt_byte [] _ _ rfl (by omega)
  have named : pageAt (patchPage slot v) 1 = byteOf slot.val := pageAt_byte [0x5A] _ _ rfl (by omega)
  have crc : pageCrc (patchPage slot v) = pageAt (patchPage slot v) 63 := pageCrc_closePage _
  have word (p : Fin 16) : pageWord (patchPage slot v) (2 + 2 * p.val) = BitVec.ofNat 16 v[p] := by
    rw [patchPage_eq]
    exact (pageWord_twoBytes (i := 2 + 2 * p.val) _ _ _ p rfl (by omega)).trans (Vector.getElem_map _ _)
  rw [judgePatch, if_neg (not_not_intro marker), if_neg (by simp [crc, named])]
  refine congrArg _ (Vector.ext fun i hi => ?_)
  have small : v[i] ≤ 1023 := hv ⟨i, hi⟩
  have read : (pageWord (patchPage slot v) (2 + 2 * i)).toNat = v[i] := by
    rw [word ⟨i, hi⟩]
    exact Nat.mod_eq_of_lt (Nat.lt_of_le_of_lt small (by decide))
  rw [Vector.getElem_ofFn, read, Nat.min_eq_left small]

theorem below_byteOf (n : Fin 3) : below 3 (byteOf n.val) = some n := by
  revert n
  decide

theorem storedOutcome_code {o : TuneOutcome} (h : o ≠ .aborted) : storedOutcome o.code = o := by
  cases o with
  | aborted => exact absurd rfl h
  | ok | okDrift | noSignal | outOfRange | noConverge | nonMonotonic => rfl

/-- The contents of a calibration page before the failure count (R166). -/
def calTables (u : VoiceIdx) (o1 o2 : CalTable) : List Byte :=
  [0xC3, byteOf u.val] ++ (o1.toList.flatMap twoBytes ++ o2.toList.flatMap twoBytes)

section
variable (u : VoiceIdx) (o1 o2 : CalTable) (n : Fin 3) (d : BitVec 16) (o : TuneOutcome)

theorem calPage_eq : calPage u o1 o2 n d o = closePage (calTables u o1 o2 ++ byteOf n.val :: (twoBytes d ++ [o.code])) :=
  rfl

theorem length_calTables : (calTables u o1 o2).length = 46 := by
  rw [calTables, List.length_append, List.length_append, length_flatMap_twoBytes, length_flatMap_twoBytes,
    Vector.length_toList, Vector.length_toList]
  rfl

theorem calPage_osc1 (k : Fin 11) : pageWord (calPage u o1 o2 n d o) (2 + 2 * k.val) = o1[k] := by
  rw [calPage_eq, calTables, List.append_assoc, List.append_assoc]
  exact pageWord_twoBytes _ _ _ k rfl (by omega)

theorem calPage_osc2 (k : Fin 11) : pageWord (calPage u o1 o2 n d o) (24 + 2 * k.val) = o2[k] := by
  rw [calPage_eq, calTables, ← List.append_assoc, List.append_assoc]
  refine pageWord_twoBytes _ _ _ k ?_ (by omega)
  rw [List.length_append, length_flatMap_twoBytes, Vector.length_toList]
  rfl

theorem calPage_failures : pageAt (calPage u o1 o2 n d o) 46 = byteOf n.val := by
  rw [calPage_eq]
  exact pageAt_byte _ _ _ (length_calTables u o1 o2).symm (by omega)

theorem calPage_drift : pageWord (calPage u o1 o2 n d o) 47 = d := by
  rw [calPage_eq, List.append_cons]
  refine pageWord_twoBytes _ [o.code] #v[d] 0 ?_ (by omega)
  rw [List.length_append, length_calTables]
  rfl

theorem calPage_outcome : pageAt (calPage u o1 o2 n d o) 49 = o.code := by
  rw [calPage_eq, List.append_cons, ← List.append_assoc]
  refine pageAt_byte _ [] _ ?_ (by omega)
  rw [List.length_append, List.length_append, length_calTables]
  rfl

end

/-- A calibration page read for its own voice gives the state it was made from (R165, R166). -/
theorem judgeCal_calPage {u : VoiceIdx} {o1 o2 : CalTable} {n : Fin 3} {d : BitVec 16} {o : TuneOutcome}
    (rising1 : increasing o1 = true) (rising2 : increasing o2 = true) (ho : o ≠ .aborted) :
    judgeCal u (calPage u o1 o2 n d o) = some ⟨o1, o2, true, n, d, o⟩ := by
  have marker : pageAt (calPage u o1 o2 n d o) 0 = 0xC3 := pageAt_byte [] _ _ rfl (by omega)
  have named : pageAt (calPage u o1 o2 n d o) 1 = byteOf u.val := pageAt_byte [0xC3] _ _ rfl (by omega)
  have crc : pageCrc (calPage u o1 o2 n d o) = pageAt (calPage u o1 o2 n d o) 63 := pageCrc_closePage _
  have osc1 : Vector.ofFn (fun k : Fin 11 => pageWord (calPage u o1 o2 n d o) (2 + 2 * k.val)) = o1 :=
    Vector.ext fun i hi => (Vector.getElem_ofFn hi).trans (calPage_osc1 u o1 o2 n d o ⟨i, hi⟩)
  have osc2 : Vector.ofFn (fun k : Fin 11 => pageWord (calPage u o1 o2 n d o) (24 + 2 * k.val)) = o2 :=
    Vector.ext fun i hi => (Vector.getElem_ofFn hi).trans (calPage_osc2 u o1 o2 n d o ⟨i, hi⟩)
  simp only [judgeCal, osc1, osc2, calPage_failures, below_byteOf, calPage_drift, calPage_outcome, storedOutcome_code ho]
  exact if_pos ⟨marker, named, crc, rising1, rising2⟩

/-- Settles O53: every byte that a judgement reads stands at a known place of the contents, and the page carries their CRC. -/
theorem pagesReadBack : Obligations.PagesReadBack :=
  ⟨fun _ _ hv => judgePatch_patchPage hv, fun _ _ _ _ _ _ rising1 rising2 ho => judgeCal_calPage rising1 rising2 ho⟩

/-! ### What is stored on a page (R158, R166) -/

/-- A page write replaces the 64 bytes of its page. -/
theorem read_writePage_inside {p : Nat} {bytes : Vector Byte 64} {m : List Host.Cell} (hp : p < 512) (h : Memory.wf m = true)
    (i : Fin 64) : Memory.read (64 * p + i.val) (Memory.writePage p bytes m) = bytes[i] := by
  have fits : 64 * p + bytes.toList.length ≤ 32768 := by rw [Vector.length_toList]; omega
  have inside : 64 * p ≤ 64 * p + i.val ∧ 64 * p + i.val - 64 * p < bytes.toList.length := by
    rw [Vector.length_toList]; omega
  rw [Memory.writePage, Memory.read_writeBytes fits h, dif_pos inside]
  simp

/-- A page write leaves every byte of another page. -/
theorem read_writePage_outside {p : Nat} {bytes : Vector Byte 64} {m : List Host.Cell} (hp : p < 512) (h : Memory.wf m = true)
    {a : Nat} (ha : ¬ (64 * p ≤ a ∧ a < 64 * p + 64)) : Memory.read a (Memory.writePage p bytes m) = Memory.read a m := by
  have fits : 64 * p + bytes.toList.length ≤ 32768 := by rw [Vector.length_toList]; omega
  have outside : ¬ (64 * p ≤ a ∧ a - 64 * p < bytes.toList.length) := by rw [Vector.length_toList]; omega
  rw [Memory.writePage, Memory.read_writeBytes fits h, dif_neg outside]

theorem page_lt_512 (r : MemReq) : r.page < 512 := Nat.lt_trans (page_lt r) (by decide)

/-! ### The held CAL-WRITE (R162, R188) -/

@[simp] theorem setSeq_held (q : SeqState) (s : State) : (setSeq q s).tune.held = s.tune.held := rfl
@[simp] theorem clearTuneVoice_held (q : SeqState) (s : State) : (clearTuneVoice q s).tune.held = s.tune.held := rfl
@[simp] theorem leaveWait_held (w : VoiceIdx) (q : SeqState) (s : State) : (leaveWait w q s).tune.held = s.tune.held := by
  simp [leaveWait]
@[simp] theorem beginWait_held (w : VoiceIdx) (s : State) : (beginWait w s).tune.held = s.tune.held := by
  simp [beginWait]

@[simp] theorem seqLook_held (s : State) : (seqLook s).tune.held = s.tune.held := by
  unfold seqLook
  split
  case isFalse => rfl
  case isTrue =>
    split
    case isTrue => rfl
    case isFalse =>
      split
      case h_1 => rfl
      case h_2 w _ =>
        split
        case isTrue => split <;> simp
        case isFalse => rfl

@[simp] theorem handRefresh_held (s : State) : (handRefresh s).tune.held = s.tune.held := by
  unfold handRefresh
  split
  case h_1 => split <;> simp
  case h_2 => rfl

@[simp] theorem noticed_held (f : Frame) (s : State) : (noticed f s).tune.held = s.tune.held := by
  unfold noticed
  split
  case h_1 => simp
  case h_2 => split <;> simp
  case h_3 => simp [refreshLost]
  case h_4 => split <;> simp
  case h_5 => split <;> simp
  case h_6 => rfl

@[simp] theorem settle_held (n : Nat) (s : State) : (settle n s).tune.held = s.tune.held := by
  induction n generalizing s with
  | zero => rfl
  | succ n ih =>
    unfold settle
    split
    case h_1 => rfl
    case h_2 => simp [ih]

/-- The end of an event leaves the held CAL-WRITE alone. -/
@[simp] theorem finish_held (before s : State) : (finish before s).tune.held = s.tune.held := by
  unfold finish
  dsimp only
  split <;> simp

/-- The Tune-End that follows a decided CAL-WRITE: nothing is held, and the memory is left alone (R188). -/
theorem handTuneEnd_keeps (u : VoiceIdx) (s : State) :
    (handTuneEnd u s).tune.held = none ∧ (handTuneEnd u s).mem = s.mem ∧ (handTuneEnd u s).start = s.start := by
  unfold handTuneEnd
  dsimp only
  split
  case isTrue => exact ⟨rfl, rfl, rfl⟩
  case isFalse =>
    split
    case h_1 => simp
    case h_2 => exact ⟨rfl, rfl, rfl⟩

theorem tuneRoom_unheld {s : State} (seq : s.tune.seq ≠ .commit) : tuneRoom s = s := by
  unfold tuneRoom
  split
  case h_1 commit _ _ => exact absurd commit seq
  case h_2 => rfl

section
variable {s : State} {r : MemReq} {u : VoiceIdx} (seq : s.tune.seq = .commit) (held : s.tune.held = some r)
  (voice : s.tune.voice = some u)
include seq held voice

theorem tuneRoom_held : tuneRoom s = handCal u r s := by
  unfold tuneRoom
  rw [seq, held, voice]

/-- A held CAL-WRITE that finds room is taken, and its Tune-End follows. -/
theorem tuneRoom_joins (h : memAnswer r s.mem = .joins) : tuneRoom s = handTuneEnd u (beginService (joinQueue r s)) := by
  rw [tuneRoom_held seq held voice, handCal, memRequest, h]

/-- A held CAL-WRITE that finds the queue full again is held on. -/
theorem tuneRoom_waits (h : memAnswer r s.mem = .waits) : tuneRoom s = s := by
  rw [tuneRoom_held seq held voice, handCal, h]
  have same : { s.tune with held := some r, seq := .commit } = s.tune := by rw [← seq, ← held]
  exact congrArg (fun tune => { s with tune := tune }) same

end

/-! ### The end of an operation (R162) -/

/-- The next operation begins on an idle port; an empty queue has none. -/
theorem beginService_frame (s : State) : ∃ port pins,
    beginService s = { s with mem := { s.mem with port := port }, pins := pins } ∧
      (s.mem.queue = [] → port = s.mem.port ∧ pins = s.pins) := by
  unfold beginService
  split
  case h_1 queue => exact ⟨_, _, rfl, fun empty => by rw [empty] at queue; cases queue⟩
  case h_2 => exact ⟨_, _, rfl, fun _ => ⟨rfl, rfl⟩⟩

@[simp] theorem beginService_queue (s : State) : (beginService s).mem.queue = s.mem.queue := by
  obtain ⟨port, pins, begun, -⟩ := beginService_frame s
  rw [begun]

/-- Where the loads are done, the room notice and the next operation are all that the end of an operation brings. -/
theorem afterOperation_loaded {rival : State → State} {s : State} (load : (tuneRoom (rival s)).start.load = .none) :
    afterOperation rival s = beginService (tuneRoom (rival s)) := by
  rw [afterOperation]
  generalize tuneRoom (rival s) = t at load
  have loads : fillLoads t = t := by rw [fillLoads, load]
  have begun : (beginService t).start.load = .none := by simpa using load
  have probe : startProbe (beginService t) = beginService t := by rw [startProbe, begun]
  have complete : loadsComplete (beginService t) = beginService t := if_neg fun ⟨_, reads, _⟩ => by
    rw [begun] at reads
    cases reads
  rw [loads, probe, complete]

/-- The end of a page write, at time d: the bytes stored, the port idle, and the request gone from the queue. -/
def writeEnded (cells : List Host.Cell) (rest : List MemEntry) (d : Nat) (s : State) : State :=
  { s with now := max s.now d, eeprom := cells, mem := ⟨s.mem.status, rest, .idle⟩, pins := { s.pins with mcs := true } }

/-- The failure of a page write, at time d, before its Report: the page spoiled, and no request left (R167). -/
def writeFailed (cells : List Host.Cell) (free d : Nat) (s : State) : State :=
  { s with
    now := max s.now d, eeprom := cells, mem := ⟨.failed, [], .idle⟩, pins := { s.pins with mcs := true }, freeCount := free }

/-- The failure of the write of page p with its one Report (R167). -/
def failureReported (cells : List Host.Cell) (free p d : Nat) (s : State) : State :=
  { writeFailed cells free d s with
    link := enterFrame (.report .memory 5 [byteOf p]) (14336 + (stationId s).val) s.link }

/-- A write that fails leaves free bytes on its page, and a Report of it (R167; log 10). -/
theorem writeFails_eq (e : MemEntry) (d : Nat) (s : State) : ∃ bytes free, writeFails e id (advanceTo d s) =
    startProbe (tuneRoom (memoryReport .memoryFault e.req.page
      (writeFailed (Memory.writePage e.req.page bytes s.eeprom) free d s))) := by
  refine ⟨Vector.ofFn fun i => Config.freePageByte (s.freeCount + i.val), s.freeCount + 64, ?_⟩
  simp only [writeFails, updPins, updMem, writeFailed, spoilPage, advanceTo, id]

/-! ### The polls (R166, R167) -/

section
variable {s : State} {rise n : Nat} {e : MemEntry} {rest : List MemEntry} {b : Byte} (port : s.mem.port = .polling rise n)
  (queue : s.mem.queue = e :: rest)
include port queue

/-- A poll before the last that reads busy waits for the next. -/
theorem exec_writePoll_waits (isBusy : b.getLsbD 0 = true) (early : n + 1 < 120) :
    exec (.writePoll ⟨b, .none⟩) s = .next { s with
      now := max s.now (rise + 100 * (n + 1)), mem := { s.mem with port := .polling rise (n + 1) } } := by
  have notLast : ¬ Config.pollLimit ≤ n + 1 := Nat.not_le.mpr early
  have run : exec (.writePoll ⟨b, .none⟩) s =
      .next (stillBusy rise n .none (advanceTo (rise + 100 * (n + 1)) s)) := by
    simp only [exec, execWritePoll, port, queue, busy, isBusy, if_true, if_neg notLast]
    rfl
  exact run

/-- A poll that reads ready ends the write, with the bytes of its request stored. -/
theorem exec_writePoll_ends (ready : b.getLsbD 0 = false) (rival : Rival) : ∃ cells,
    exec (.writePoll ⟨b, rival⟩) s =
      .next (finish s (afterOperation (Rival.effect rival) (writeEnded cells rest (rise + 100 * (n + 1)) s))) ∧
      ∀ bytes, e.req.image = some bytes → cells = Memory.writePage e.req.page bytes s.eeprom := by
  have notBusy : ¬ busy b = true := Bool.eq_false_iff.mp ready
  have run : exec (.writePoll ⟨b, rival⟩) s =
      .next (finish s (writeEnds e (Rival.effect rival) (advanceTo (rise + 100 * (n + 1)) s))) := by
    simp only [exec, execWritePoll, port, queue, if_neg notBusy]
    rfl
  have freed : s.mem.queue.drop 1 = rest := by rw [queue]; rfl
  rw [run, writeEnds]
  cases image : e.req.image with
  | none => exact ⟨s.eeprom, by rw [writeEnded, ← freed]; rfl, fun _ h => by cases h⟩
  | some bytes => exact ⟨_, by rw [writeEnded, ← freed]; rfl, fun _ h => by cases h; rfl⟩

/-- The last poll, still busy, fails the write: no other request is left to serve, and one Report names the page. -/
theorem exec_writePoll_fails (hs : Settled s) (isBusy : b.getLsbD 0 = true) (last : 120 ≤ n + 1) (seq : s.tune.seq ≠ .commit)
    (load : s.start.load = .none) (enabled : txEnabled s = true) (room : s.link.queue.length < 16) :
    ∃ bytes cells free, exec (.writePoll ⟨b, .none⟩) s =
        .next (failureReported cells free e.req.page (rise + 100 * (n + 1)) s) ∧
      cells = Memory.writePage e.req.page bytes s.eeprom := by
  have isLast : Config.pollLimit ≤ n + 1 := last
  have run : exec (.writePoll ⟨b, .none⟩) s =
      .next (finish s (writeFails e id (advanceTo (rise + 100 * (n + 1)) s))) := by
    simp only [exec, execWritePoll, port, queue, busy, isBusy, if_true, if_pos isLast, rivalEffect_none]
    rfl
  obtain ⟨bytes, free, failed⟩ := writeFails_eq e (rise + 100 * (n + 1)) s
  generalize hc : Memory.writePage e.req.page bytes s.eeprom = cells at failed
  have reported : memoryReport .memoryFault e.req.page (writeFailed cells free (rise + 100 * (n + 1)) s) =
      failureReported cells free e.req.page (rise + 100 * (n + 1)) s := memoryReport_room _ _ enabled room
  have unheld : (failureReported cells free e.req.page (rise + 100 * (n + 1)) s).tune.seq ≠ .commit := seq
  have loaded : (failureReported cells free e.req.page (rise + 100 * (n + 1)) s).start.load = .none := load
  have settled : Settled (failureReported cells free e.req.page (rise + 100 * (n + 1)) s) := settled_congr hs rfl rfl rfl rfl
  refine ⟨bytes, cells, free, ?_, hc.symm⟩
  rw [run, failed, reported, tuneRoom_unheld unheld, startProbe, loaded]
  exact congrArg _ (finish_settled settled)

/-- A poll that reads ready, where no CAL-WRITE is held and the loads are done: the bytes are stored and the next request is
served. -/
theorem writePoll_stores (hs : Settled s) (seq : s.tune.seq ≠ .commit) (load : s.start.load = .none) (ready : b.getLsbD 0 = false) :
    ∃ cells port' pins, exec (.writePoll ⟨b, .none⟩) s = .next { s with
        now := max s.now (rise + 100 * (n + 1)), eeprom := cells, mem := ⟨s.mem.status, rest, port'⟩, pins := pins } ∧
      (∀ bytes, e.req.image = some bytes → cells = Memory.writePage e.req.page bytes s.eeprom) ∧
      (rest = [] → port' = .idle ∧ pins.mcs = true) := by
  obtain ⟨cells, run, stored⟩ := exec_writePoll_ends port queue ready .none
  have unheld : tuneRoom (Rival.effect .none (writeEnded cells rest (rise + 100 * (n + 1)) s)) =
      writeEnded cells rest (rise + 100 * (n + 1)) s := tuneRoom_unheld seq
  obtain ⟨port', pins, begun, empty⟩ := beginService_frame (writeEnded cells rest (rise + 100 * (n + 1)) s)
  refine ⟨cells, port', pins, ?_, stored, fun h => ?_⟩
  · rw [run, afterOperation_loaded (by rw [unheld]; exact load), unheld, begun]
    exact congrArg _ (finish_settled (settled_congr hs rfl rfl rfl rfl))
  · obtain ⟨idle, high⟩ := empty h
    exact ⟨idle, by rw [high]; rfl⟩

end

/-! ### Room for a held CAL-WRITE (R162, R188) -/

/-- A request that joins goes to the tail; nothing but the memory's items and pins changes (R161). -/
theorem memRequest_tail {r : MemReq} {s : State} (h : memAnswer r s.mem = .joins) : ∃ port pins, memRequest r s =
    { s with mem := ⟨s.mem.status, s.mem.queue ++ [⟨r, false⟩], port⟩, pins := pins } := by
  obtain ⟨port, pins, joined, -⟩ := joins_frame r s
  rw [memRequest, h]
  exact ⟨port, pins, joined⟩

/-- A Recall or Store that the station takes at the end of an operation hands its request over (R147, R152). -/
theorem rivalEffect_recall {s : State} {src : Station} {slot : PatchSlot} {c m : Byte} (hc : canReceive s = true)
    (hf : following s = true) (slotOf : c.toNat = slot.val) :
    Rival.effect (.recall src c m) s = memRequest (.recallRead slot m) (followed s) := by
  have heard : hear (recallEffect c m) s = recallEffect c m (followed s) := if_pos (dispatching_of_following hf)
  rw [Rival.effect, if_pos hc, heard, recallEffect, slotIndex_of_val slotOf]
  exact if_pos hf

theorem rivalEffect_store {s : State} {src : Station} {slot : PatchSlot} {c : Byte} (hc : canReceive s = true)
    (hf : following s = true) (slotOf : c.toNat = slot.val) :
    Rival.effect (.store src c) s = memRequest (.storeWrite slot (snapshot s)) (followed s) := by
  have heard : hear (storeEffect c) s = storeEffect c (followed s) := if_pos (dispatching_of_following hf)
  rw [Rival.effect, if_pos hc, heard, storeEffect, slotIndex_of_val slotOf]
  exact if_pos hf

section
variable {w : State} {rest : List MemEntry} {u : VoiceIdx} {r : MemReq} (mem : w.mem = ⟨.present, rest, .idle⟩)
  (three : rest.length = 3) (load : w.start.load = .none) (seq : w.tune.seq = .commit) (voice : w.tune.voice = some u)
  (held : w.tune.held = some r) (notRecall : r.isRecall = false)
include mem three load seq voice held notRecall

/-- Without a rival the held CAL-WRITE takes the freed place. -/
theorem afterOperation_takesHeld : (afterOperation id w).mem.queue = rest ++ [⟨r, false⟩] ∧
    (afterOperation id w).tune.held = none := by
  have answer : memAnswer r w.mem = .joins :=
    memAnswer_joins (by rw [mem]) (fun isRecall => by rw [notRecall] at isRecall; cases isRecall) (by simp [mem, three])
  have room := tuneRoom_joins seq held voice answer
  obtain ⟨unheld, memKept, startKept⟩ := handTuneEnd_keeps u (beginService (joinQueue r w))
  rw [← room] at unheld memKept startKept
  have loaded : (tuneRoom w).start.load = .none := by rw [startKept]; simpa using load
  have joined : (tuneRoom w).mem.queue = rest ++ [⟨r, false⟩] := by
    rw [memKept, beginService_queue, joinQueue, updMem_mem, mem]
  rw [afterOperation_loaded loaded]
  exact ⟨(beginService_queue _).trans joined, by simpa using unheld⟩

/-- A request that another block hands over first takes the freed place, and the CAL-WRITE is held on. -/
theorem afterOperation_takesRival {rival : State → State} {first : MemReq} (waits : r.unplaced = .waits)
    (hands : rival w = memRequest first (followed w)) (noRecall : first.isRecall = true → ∀ x ∈ rest, x.req.isRecall = false) :
    (afterOperation rival w).mem.queue = rest ++ [⟨first, false⟩] ∧ (afterOperation rival w).tune = w.tune ∧
      (afterOperation rival w).link.notices = w.link.notices := by
  have noneWaits : first.isRecall = true → w.mem.waitingRecall = none := fun isRecall => by
    simpa [mem, MemCtl.waitingRecall, MemCtl.unstarted, MemPort.serving] using noRecall isRecall
  have answer : memAnswer first (followed w).mem = .joins := memAnswer_joins (by simp [followed, setPlace, mem]) noneWaits
    (by simp [followed, setPlace, mem, three])
  obtain ⟨port, pins, joined⟩ := memRequest_tail answer
  have memAfter : (rival w).mem = ⟨.present, rest ++ [⟨first, false⟩], port⟩ := by
    rw [hands, joined]
    simp [followed, setPlace, mem]
  have tuneAfter : (rival w).tune = w.tune := by rw [hands, joined]; rfl
  have full : memAnswer r (rival w).mem = .waits := by
    rw [memAfter, memAnswer_full rfl (fun isRecall => by rw [notRecall] at isRecall; cases isRecall) (by simp [three]), waits]
  have room : tuneRoom (rival w) = rival w :=
    tuneRoom_waits (by rw [tuneAfter, seq]) (by rw [tuneAfter, held]) (by rw [tuneAfter, voice]) full
  have loaded : (tuneRoom (rival w)).start.load = .none := by rw [room, hands, joined]; exact load
  rw [afterOperation_loaded loaded, room]
  refine ⟨by rw [beginService_queue, memAfter], by simpa using tuneAfter, ?_⟩
  have link : (beginService (rival w)).link = (rival w).link := by simp
  rw [link, hands, joined]
  rfl

end

section
variable {s : State} {rise n : Nat} {e : MemEntry} {rest : List MemEntry} {b : Byte} {u : VoiceIdx} {r : MemReq}
  (port : s.mem.port = .polling rise n) (queue : s.mem.queue = e :: rest) (three : rest.length = 3)
  (present : s.mem.status = .present) (load : s.start.load = .none) (ready : b.getLsbD 0 = false) (seq : s.tune.seq = .commit)
  (voice : s.tune.voice = some u) (held : s.tune.held = some r) (notRecall : r.isRecall = false)
include port queue three present load ready seq voice held notRecall

/-- A poll that reads ready gives its place to the held CAL-WRITE. -/
theorem writePoll_takesHeld :
    ∃ t, exec (.writePoll ⟨b, .none⟩) s = .next t ∧ t.mem.queue = rest ++ [⟨r, false⟩] ∧ t.tune.held = none := by
  obtain ⟨cells, run, -⟩ := exec_writePoll_ends port queue ready .none
  have freed : (writeEnded cells rest (rise + 100 * (n + 1)) s).mem = ⟨.present, rest, .idle⟩ := by rw [writeEnded, present]
  obtain ⟨joined, unheld⟩ := afterOperation_takesHeld freed three load seq voice held notRecall
  refine ⟨_, run, ?_⟩
  simp only [finish_keeps, finish_held]
  exact ⟨joined, unheld⟩

/-- A poll that reads ready gives its place to a request that another block hands over first. -/
theorem writePoll_takesRival {rival : Rival} {first : MemReq} (hs : Settled s) (waits : r.unplaced = .waits)
    (hands : ∀ cells, Rival.effect rival (writeEnded cells rest (rise + 100 * (n + 1)) s) =
      memRequest first (followed (writeEnded cells rest (rise + 100 * (n + 1)) s)))
    (noRecall : first.isRecall = true → ∀ x ∈ rest, x.req.isRecall = false) :
    ∃ t, exec (.writePoll ⟨b, rival⟩) s = .next t ∧ t.mem.queue = rest ++ [⟨first, false⟩] ∧ t.tune.held = some r ∧
      t.tune.seq = .commit := by
  obtain ⟨cells, run, -⟩ := exec_writePoll_ends port queue ready rival
  have freed : (writeEnded cells rest (rise + 100 * (n + 1)) s).mem = ⟨.present, rest, .idle⟩ := by rw [writeEnded, present]
  obtain ⟨joined, tune, notices⟩ :=
    afterOperation_takesRival freed three load seq voice held notRecall waits (hands cells) noRecall
  rw [finish_of_settled hs notices tune] at run
  refine ⟨_, run, ?_⟩
  simp only [selectIfPosted_keeps]
  exact ⟨joined, by rw [tune]; exact held, by rw [tune]; exact seq⟩

end

/-! ### The statement of page writes -/

/-- Settles O44. A poll that reads ready frees a place, for which the held CAL-WRITE and a frame taken at that moment compete. -/
theorem pageWritesAreStored : Obligations.PageWritesAreStored := by
  refine ⟨fun s d port => ?_, fun s rise n e rest bytes b hs hw port queue image seq load => ⟨?_, fun ready => ?_, ?_⟩,
    fun s rise n e rest b u w osc1 osc2 failures drift outcome hs => ?_⟩
  · simp only [exec, execPageWriteCommandEnd, port]
    rfl
  · exact exec_writePoll_waits port queue
  · obtain ⟨cells, port', pins, run, stored, idle⟩ := writePoll_stores port queue hs seq load ready
    obtain rfl := stored bytes image
    exact ⟨_, run, rfl, read_writePage_inside (page_lt_512 e.req) hw, fun a => read_writePage_outside (page_lt_512 e.req) hw,
      rfl, rfl, idle, rfl, rfl, rfl, rfl, rfl, rfl, rfl⟩
  · intro isBusy last enabled room
    obtain ⟨spoiled, cells, free, run, written⟩ := exec_writePoll_fails port queue hs isBusy last seq load enabled room
    refine ⟨_, run, rfl, rfl, ⟨_, mem_insertEntry.mpr (.inl rfl), rfl⟩, fun a ha => ?_, rfl, rfl, rfl, rfl, rfl, rfl⟩
    rw [← read_writePage_outside (bytes := spoiled) (page_lt_512 e.req) hw ha, ← written]
    rfl
  · intro r port queue three present load ready seq voice held
    refine ⟨writePoll_takesHeld port queue three present load ready seq voice held rfl,
      fun src slot c hc hf hslot => ?_, fun src slot c m hc hf hslot noRecall => ?_⟩
    · exact writePoll_takesRival port queue three present load ready seq voice held rfl hs rfl
        (fun cells => rivalEffect_store hc hf hslot) (fun h => by cases h)
    · exact writePoll_takesRival port queue three present load ready seq voice held rfl hs rfl
        (fun cells => rivalEffect_recall hc hf hslot) (fun _ => noRecall)

end Sys2Proof.MemoryPages
end

section
/-!
The step itself: it runs the front command (log 1), every command ends in a next state that keeps the waiting commands and
does not turn the clock back (logs 3, 4), and the state after reset satisfies every law (R42).
-/
namespace Sys2Proof.Steps
open Sys2Proof Sys2Proof.Machine Sys2Proof.Safety
open Sys2Proof.PanelScanning (KnobEffect)
open Sys2Proof.LivePatch (liveLaw_reset uncatch_frame followStep_frame)
open Sys2Proof.PitchArithmetic (calibLaw_of_calib_reset)

/-! ### The step (log 1) -/

theorem step_front {c : Instr} {rest : List Instr} {s : State} (front : s.pending = c :: rest) :
    step s = exec c (s.withPending rest) := by
  rw [step, front]

theorem step_idle {s : State} (empty : s.pending = []) : step s = .next (tick s) := by
  rw [step]
  simp only [empty]

/-- Settles O1, by the two cases of the queue. -/
theorem stepRunsFrontCommand : Obligations.StepRunsFrontCommand :=
  ⟨fun _ _ _ => step_front, fun _ => step_idle⟩

/-! ### The state after reset (R42) -/

theorem gateLaw_reset : GateLaw State.reset := by
  have low : ∀ u : VoiceIdx, State.reset.gates[u] = false := by decide
  exact fun u high => absurd high (by simp [low u])

theorem queueLaw_of_empty {s : State} (empty : s.link.queue = []) (quiet : s.link.place ≠ .sending) : QueueLaw s := by
  simp [QueueLaw, empty, quiet]

theorem claimLaw_of_idle {s : State} (empty : s.claims = [])
    (idle : ∀ u : VoiceIdx, s.voices[u].nominated = false ∧ s.voices[u].ident = none) : ClaimLaw s := by
  refine ⟨by simp [empty], by simp [empty], fun u => ?_, fun u _ held => absurd (idle u).2 held, by simp [empty]⟩
  rw [(idle u).1, empty]
  rfl

theorem slots_reset (i : SlotIdx) : State.reset.slots[i] = Slot.reset := by
  simp [State.reset]

theorem portLaw_reset : PortLaw State.reset := by
  intro i flight
  rw [slots_reset i] at flight
  exact absurd rfl flight

theorem settled_reset : Settled State.reset :=
  ⟨rfl, by decide, fun _ _ i => by rw [slots_reset i]; rfl⟩

/-- Settles O60: every table is empty or at rest, and the live values and the calibration tables are the default ones. -/
theorem resetKeepsTheLaws : Obligations.ResetKeepsTheLaws := by
  refine ⟨gateLaw_reset, ?transmit, queueLaw_of_empty rfl ?place, claimLaw_of_idle rfl ?voices, liveLaw_reset,
    ?memQueue, Memory.wf_nil, portLaw_reset, calibLaw_of_calib_reset rfl, settled_reset⟩
  case transmit => exact fun sending => by cases sending
  case place => decide
  case voices => decide
  case memQueue => exact ⟨by decide, by decide⟩

/-! ### What leaves the clock and the waiting commands alone

Only a command itself moves the clock, by `advanceTo`, before its operations act. One lemma for each operation that branches and
that Laws/Ops.lean does not treat, by block; an operation that only updates fields is opened where it is met. -/

/-- The clock and the waiting commands of t are those of s. -/
@[simp] abbrev SameMoment (s t : State) : Prop := t.now = s.now ∧ t.pending = s.pending

theorem SameMoment.refl (s : State) : SameMoment s s := ⟨rfl, rfl⟩

theorem SameMoment.trans {s t r : State} (first : SameMoment s t) (second : SameMoment t r) : SameMoment s r :=
  ⟨second.1.trans first.1, second.2.trans first.2⟩

/-- A fold of operations that each keep the moment. -/
theorem foldl_moment {α : Type} {f : State → α → State} (h : ∀ t a, SameMoment t (f t a)) (l : List α) (s : State) :
    SameMoment s (l.foldl f s) :=
  foldl_keeps (P := SameMoment s) (fun t a ht => ht.trans (h t a)) (.refl s)

theorem forVoices_moment {f : VoiceIdx → State → State} (h : ∀ u t, SameMoment t (f u t)) (s : State) :
    SameMoment s (forVoices f s) :=
  forVoices_keeps (P := SameMoment s) (fun u t ht => ht.trans (h u t)) (.refl s)

-- The Voice Allocator

@[simp] theorem winClaim_moment (i : Ident) (u : VoiceIdx) (s : State) : SameMoment s (winClaim i u s) := by
  unfold winClaim; split <;> simp

@[simp] theorem decideClaim_moment (i : Ident) (vel : Velocity) (s : State) : SameMoment s (decideClaim i vel s) := by
  unfold decideClaim; repeat' split
  all_goals simp

@[simp] theorem claimExpires_moment (i : Ident) (s : State) : SameMoment s (claimExpires i s) := by
  unfold claimExpires; split <;> simp [giveUpClaim]

@[simp] theorem noteOffEffect_moment (src : Station) (n : Note) (s : State) : SameMoment s (noteOffEffect src n s) := by
  unfold noteOffEffect noteOffVoice; repeat' split
  all_goals simp

@[simp] theorem setBend_moment (src : Station) (b : Int) (s : State) : SameMoment s (setBend src b s) := by
  unfold setBend; dsimp only; split <;> simp

@[simp] theorem setSustain_moment (src : Station) (on : Bool) (s : State) : SameMoment s (setSustain src on s) := by
  unfold setSustain; dsimp only; split <;> simp

@[simp] theorem applyRecorded_moment (u : VoiceIdx) (s : State) : SameMoment s (applyRecorded u s) := by
  unfold applyRecorded; dsimp only; split <;> simp

-- The Tune Unit

@[simp] theorem addPair_moment (t : Station) (w : VoiceIdx) (s : State) : SameMoment s (addPair t w s) := by
  unfold addPair; split <;> simp

@[simp] theorem removePairs_moment (sel : Station × VoiceIdx → Bool) (s : State) : SameMoment s (removePairs sel s) := by
  unfold removePairs; split <;> simp

@[simp] theorem helloTune_moment (src : Station) (s : State) : SameMoment s (helloTune src s) := by
  unfold helloTune; dsimp only; split <;> simp

@[simp] theorem ownTuneBegin_moment (w : VoiceIdx) (s : State) : SameMoment s (ownTuneBegin w s) := by
  unfold ownTuneBegin; split <;> simp [beginMeasure, beginPass, selectOsc, endStray]

@[simp] theorem measureWritten_moment (u : VoiceIdx) (s : State) : SameMoment s (measureWritten u s) := by
  unfold measureWritten; split <;> simp

@[simp] theorem handTuneEnd_moment (u : VoiceIdx) (s : State) : SameMoment s (handTuneEnd u s) := by
  unfold handTuneEnd; dsimp only; repeat' split
  all_goals simp

@[simp] theorem handCal_moment (u : VoiceIdx) (r : MemReq) (s : State) : SameMoment s (handCal u r s) := by
  unfold handCal; split <;> simp

@[simp] theorem tuneRoom_moment (s : State) : SameMoment s (tuneRoom s) := by
  unfold tuneRoom; split <;> simp

@[simp] theorem failTune_moment (u : VoiceIdx) (o : TuneOutcome) (d : Byte) (s : State) :
    SameMoment s (failTune u o d s) := by
  simp [failTune, finishTune, clearMeasure]

@[simp] theorem completeTune_moment (u : VoiceIdx) (w : TuneWork) (s : State) : SameMoment s (completeTune u w s) := by
  unfold completeTune; dsimp only; split <;> simp [succeedTune, finishTune, clearMeasure]

@[simp] theorem judgePass_moment (u : VoiceIdx) (w : TuneWork) (e : Int) (s : State) : SameMoment s (judgePass u w e s) := by
  unfold judgePass acceptPass; repeat' split
  all_goals simp [beginPass, selectOsc]

@[simp] theorem failCount_moment (o : TuneOutcome) (s : State) : SameMoment s (failCount o s) := by
  unfold failCount; split <;> simp [stopCounter]

@[simp] theorem countResult_moment (n : Nat) (s : State) : SameMoment s (countResult n s) := by
  unfold countResult; repeat' split
  all_goals simp [stopCounter]

@[simp] theorem stopTune_moment (s : State) : SameMoment s (stopTune s) := by
  unfold stopTune; dsimp only; split <;> simp [stopMeasure, clearMeasure]

@[simp] theorem abortTune_moment (s : State) : SameMoment s (abortTune s) := by
  unfold abortTune; dsimp only; split <;> simp

-- The Panel Scanner and the Patch Unit

@[simp] theorem startScanner_moment (s : State) : SameMoment s (startScanner s) := by
  unfold startScanner; split <;> simp

@[simp] theorem knobSample_moment (i : Fin 32) (x : BitVec 12) (s : State) : SameMoment s (knobSample i x s) := by
  obtain ⟨_, _, change⟩ := (KnobEffect.knobSample (i := i) (s := s) (x := x)).changes
  rw [change]
  exact ⟨rfl, rfl⟩

@[simp] theorem nextSample_moment (i : Fin 32) (s : State) : SameMoment s (nextSample i s) := by
  unfold nextSample; split <;> simp

@[simp] theorem rowEnds_moment (ss : BitVec 8) (s : State) : SameMoment s (rowEnds ss s) := by
  unfold rowEnds; dsimp only; split <;> simp [endPass, nextRow]

@[simp] theorem uncatch_moment (p : Fin 16) (s : State) : SameMoment s (uncatch p s) := by
  obtain ⟨_, _, frame⟩ := uncatch_frame p s
  rw [frame]
  exact .refl s

@[simp] theorem followStep_moment (p : Fin 16) (s : State) : SameMoment s (followStep p s) := by
  obtain ⟨_, frame⟩ := followStep_frame p s
  rw [frame]
  exact .refl s

@[simp] theorem recallApply_moment (m : Byte) (v : Vector Nat 16) (s : State) : SameMoment s (recallApply m v s) := by
  have uncaught (ps : List (Fin 16)) (t : State) : SameMoment t (ps.foldl (fun t p => uncatch p t) t) :=
    foldl_moment (fun t p => uncatch_moment p t) ps t
  unfold recallApply; split <;> simp [recallNow, recallMorph, setLive, uncaught]

@[simp] theorem stepGroup_moment (ps : List (Fin 16)) (s : State) : SameMoment s (stepGroup ps s) := by
  have stepped : SameMoment s (ps.foldl (fun t p => updParam p Param.step t) s) :=
    foldl_moment (fun t p => by simp) ps s
  exact (stepped.trans (by simp)).trans (foldl_moment (fun t p => followStep_moment p t) ps _)

-- The fault state

@[simp] theorem enterMuted_moment (c : FaultCode) (d : Byte) (s : State) : SameMoment s (enterMuted c d s) := by
  have levels (t : State) : SameMoment t (forVoices forceLevel t) := forVoices_moment (fun u x => by simp) t
  simp [enterMuted, levels]

@[simp] theorem flushQueue_moment (s : State) : SameMoment s (flushQueue s) := by
  unfold flushQueue breakOwnFrame; split <;> simp [leaveLine]

@[simp] theorem abandonLoads_moment (s : State) : SameMoment s (abandonLoads s) := by
  unfold abandonLoads; split <;> simp [restartMemory]

@[simp] theorem raiseFault_moment (c : FaultCode) (d : Byte) (s : State) : SameMoment s (raiseFault c d s) := by
  unfold raiseFault; split <;> simp [enterSilent]

-- Joining and the ends of memory operations

@[simp] theorem enterRunning_moment (s : State) : SameMoment s (enterRunning s) := by
  unfold enterRunning; dsimp only; split <;> simp

@[simp] theorem startProbe_moment (s : State) : SameMoment s (startProbe s) := by
  unfold startProbe; split <;> simp

@[simp] theorem fillLoads_moment (s : State) : SameMoment s (fillLoads s) := by
  unfold fillLoads
  split
  · exact foldl_moment (fun t r => by simp) _ _
  · exact .refl s

@[simp] theorem loadsComplete_moment (s : State) : SameMoment s (loadsComplete s) := by
  unfold loadsComplete; split <;> simp [endLoading, loadVoices]

@[simp] theorem probeEnds_moment (status : Byte) (s : State) : SameMoment s (probeEnds status s) := by
  have uncalibrated (t : State) : SameMoment t (uncalibrate t) := forVoices_moment (fun u x => by simp) t
  have result (t : State) : SameMoment t (probeResult status t) := by
    unfold probeResult; repeat' split
    all_goals simp [endLoading, loadVoices, uncalibrated]
  simp [probeEnds, result]

@[simp] theorem readResult_moment (e : MemEntry) (page : Vector Byte 64) (s : State) :
    SameMoment s (readResult e page s) := by
  unfold readResult recallResult calResult; repeat' split
  all_goals simp [setLive]

@[simp] theorem joinReady_moment (s : State) : SameMoment s (joinReady s) := by
  unfold joinReady; split <;> simp [enterLoading]

@[simp] theorem acceptSetup_moment (p l t i : Byte) (s : State) : SameMoment s (acceptSetup p l t i s) := by
  unfold acceptSetup; dsimp only; split <;> simp [holdSetup]

@[simp] theorem leaveAnnounce_moment (s : State) : SameMoment s (leaveAnnounce s) := by
  unfold leaveAnnounce; repeat' split
  all_goals simp

@[simp] theorem restart_moment (s : State) : SameMoment s (restart s) := by
  unfold restart; dsimp only
  split <;> simp [stopScanner, settleLive, restartMemory, restartTune, restartVoices]

-- The frames of the station and of others

@[simp] theorem tuneBeginEffect_moment (t : Station) (own : Bool) (w : VoiceIdx) (r : Bool) (s : State) :
    SameMoment s (tuneBeginEffect t own w r s) := by
  unfold tuneBeginEffect; dsimp only; repeat' split
  all_goals simp

@[simp] theorem tuneEndEffect_moment (t : Station) (w : VoiceIdx) (s : State) : SameMoment s (tuneEndEffect t w s) := by
  unfold tuneEndEffect; dsimp only; repeat' split
  all_goals simp

@[simp] theorem recallEffect_moment (slot m : Byte) (s : State) : SameMoment s (recallEffect slot m s) := by
  unfold recallEffect; repeat' split
  all_goals simp

@[simp] theorem storeEffect_moment (slot : Byte) (s : State) : SameMoment s (storeEffect slot s) := by
  unfold storeEffect; repeat' split
  all_goals simp

@[simp] theorem knobEffect_moment (b : Bool) (k : Byte) (x : BitVec 16) (s : State) : SameMoment s (knobEffect b k x s) := by
  unfold knobEffect; dsimp only; repeat' split
  all_goals simp [applyParam]

@[simp] theorem helloEffect_moment (src : Station) (s : State) : SameMoment s (helloEffect src s) := by
  unfold helloEffect; repeat' split
  all_goals simp [helloVoices]

@[simp] theorem ownEffect_moment (f : Frame) (b : Bool) (s : State) : SameMoment s (ownEffect f b s) := by
  unfold ownEffect; split <;> simp

theorem hear_moment {effect : State → State} (h : ∀ t, SameMoment t (effect t)) (s : State) :
    SameMoment s (hear effect s) := by
  unfold hear; dsimp only; split
  · exact h (followed s)
  · exact ⟨rfl, rfl⟩

/-- A frame of another transmitter whose effect keeps the moment. -/
theorem takeFrame_moment {effect : State → State} (h : ∀ t, SameMoment t (effect t)) (s : State) :
    SameMoment s (takeFrame effect s) := by
  unfold takeFrame; split
  · exact (hear_moment h s).trans (by simp)
  · exact .refl s

/-- The station's own frame with an effect that keeps the moment. -/
theorem takeOwnFrame_moment {f : Frame} {effect : Bool → State → State} (h : ∀ b t, SameMoment t (effect b t)) (s : State) :
    SameMoment s (takeOwnFrame f effect s) := by
  unfold takeOwnFrame
  split
  case h_2 => exact .refl s
  case h_1 e _ =>
    have taken : SameMoment s (ownTaken e s) := ⟨rfl, rfl⟩
    dsimp only
    repeat' split
    · exact (taken.trans (h e.withdrawn _)).trans (by simp)
    · exact taken.trans (by simp)
    · exact .refl s

@[simp] theorem rivalEffect_moment (r : Rival) (s : State) : SameMoment s (Rival.effect r s) := by
  have received {effect : State → State} (h : ∀ t, SameMoment t (effect t)) :
      SameMoment s (if canReceive s then hear effect s else s) := by
    split
    · exact hear_moment h s
    · exact .refl s
  cases r with
  | none => exact .refl s
  | store _ slot => exact received (storeEffect_moment slot)
  -- A Recall, whose constructor's name is a keyword here
  | _ => exact received (recallEffect_moment _ _)

-- The line and the CV port

@[simp] theorem withdrawnAtCheck_moment (e : TxEntry) (s : State) : SameMoment s (withdrawnAtCheck e s) := by
  unfold withdrawnAtCheck; repeat' split
  all_goals simp

@[simp] theorem checkHead_moment (s : State) : SameMoment s (checkHead s) := by
  unfold checkHead; split
  · exact .refl s
  · exact foldl_moment (fun t e => withdrawnAtCheck_moment e t) _ _

@[simp] theorem driveHead_moment (s : State) : SameMoment s (driveHead s) := by
  unfold driveHead; split <;> simp

@[simp] theorem dropWithdrawn_moment (e : TxEntry) (s : State) : SameMoment s (dropWithdrawn e s) := by
  unfold dropWithdrawn endExpired; dsimp only; repeat' split
  all_goals simp [giveUpClaim]

@[simp] theorem afterCollision_moment (e : TxEntry) (s : State) : SameMoment s (afterCollision e s) := by
  unfold afterCollision; repeat' split
  all_goals simp [requeue]

@[simp] theorem checkConsecutive_moment (s : State) : SameMoment s (checkConsecutive s) := by
  unfold checkConsecutive; split <;> simp

@[simp] theorem followEdge_moment (l : Level) (s : State) : SameMoment s (followEdge l s) := by
  unfold followEdge; split <;> exact ⟨rfl, rfl⟩

@[simp] theorem reportMarks_moment (i : SlotIdx) (f : Option Flight) (s : State) : SameMoment s (reportMarks i f s) := by
  unfold reportMarks; dsimp only; repeat' split
  all_goals simp

@[simp] theorem countTimeout_moment (i : SlotIdx) (s : State) : SameMoment s (countTimeout i s) := by
  unfold countTimeout; split <;> simp

-- The ends of memory operations with what comes at that moment, and a Restart

@[simp] theorem afterOperation_moment (r : Rival) (s : State) : SameMoment s (afterOperation (Rival.effect r) s) := by
  simp [afterOperation]

@[simp] theorem writeEnds_moment (e : MemEntry) (r : Rival) (s : State) : SameMoment s (writeEnds e (Rival.effect r) s) := by
  unfold writeEnds; dsimp only; split <;> simp [finishOperation]

@[simp] theorem stillBusy_moment (rise polls : Nat) (r : Rival) (s : State) : SameMoment s (stillBusy rise polls r s) := by
  unfold stillBusy; dsimp only; split <;> simp

@[simp] theorem resumeScheduler_moment (before s : State) : SameMoment s (resumeScheduler before s) := by
  unfold resumeScheduler; split <;> simp

/-! ### Every command completes (log 4) -/

/-- The outcome is a next state in which the commands that waited in s wait, and the clock has not gone back. -/
def EndsNext (s : State) (o : Host.Outcome State Fault Refusal) : Prop :=
  ∃ t, o = .next t ∧ t.pending = s.pending ∧ s.now ≤ t.now

@[simp] theorem endsNext_next {s t : State} : EndsNext s (.next t) ↔ t.pending = s.pending ∧ s.now ≤ t.now := by
  simp [EndsNext]

theorem endsNext_same {s t : State} (h : SameMoment s t) : EndsNext s (.next t) :=
  endsNext_next.mpr ⟨h.2, Nat.le_of_eq h.1.symm⟩

/-- An expiry moves the clock to the end of its timer, but never back (log 3). -/
@[simp] theorem now_le_max (s : State) (d : Nat) : s.now ≤ max s.now d := Nat.le_max_left s.now d

/-- The meaning of a command moves the clock forward to the end of its timer at most, and what it then does keeps that moment. -/
theorem exec_endsNext (i : Instr) (s : State) : EndsNext s (exec i s) := by
  cases i with
  | powerOnReset => exact endsNext_same ⟨rfl, rfl⟩
  -- Frames of other transmitters, and the station's own
  | noteOn | sustain | allNotesOff | otherClaimTaken | bend | setup | query | tuneRequest | tuneStop =>
    exact endsNext_same (takeFrame_moment (fun t => by split <;> simp [requestTunes]) s)
  | param =>
    refine endsNext_same (takeFrame_moment (fun t => ?_) s)
    repeat' split
    all_goals simp [applyParam]
  | noteOff | store => exact endsNext_same (takeFrame_moment (fun t => by simp) s)
  | ownClaimTaken => exact endsNext_same (takeOwnFrame_moment (fun _ t => by simp) s)
  | knob origin | switchTaken origin | reportTaken origin | hello origin | tuneBegin origin | tuneEnd origin =>
    cases origin with
    | own => exact endsNext_same (takeOwnFrame_moment (fun _ t => by simp) s)
    | line => exact endsNext_same (takeFrame_moment (fun t => by simp) s)
  | ownFrameTaken =>
    simp only [exec, execOwnFrameTaken]
    split
    · exact endsNext_same (takeOwnFrame_moment (ownEffect_moment _) s)
    · exact endsNext_same (.refl s)
  | restart =>
    simp only [exec, execRestart]
    repeat' split
    all_goals simp [followed]
  -- The line, the strap slots and the join timers
  | resetEnd | strapSlotEnd | listenTimerExpiry | setupTimerExpiry | transmitStart | lostArbitration | collision | framingError
  | frameDiscarded | startBitReceived =>
    simp only [exec, execResetEnd, execStrapSlotEnd, execListenTimerExpiry, execSetupTimerExpiry, execTransmitStart,
      execLostArbitration, execCollision, execFramingError, execFrameDiscarded, execStartBitReceived]
    repeat' split
    all_goals simp [beginSlot, endSensing, takeDefaults, requeue, countCollision, loseAtCollision, leaveLine, breakOff,
      followedFaulty]
  -- The voice timers and the tune timers
  | gapTimerExpiry | minimumGateExpiry | releaseTimerExpiry | claimTimeout | glideStep | settleTimerExpiry | tinFirstEdge
  | refreshTimerExpiry | countEnd | startLimitExpiry | countOverflow =>
    simp only [exec, execGapTimerExpiry, execMinimumGateExpiry, execReleaseTimerExpiry, execClaimTimeout, execGlideStep,
      execSettleTimerExpiry, execTinFirstEdge, execRefreshTimerExpiry, execCountEnd, execStartLimitExpiry, execCountOverflow]
    repeat' split
    all_goals simp
  -- The ports, the panel and the morphs
  | slotAgeThreshold | drdyReady | writeComplete | holdEnd | drdyTimeout | bankChangeGapEnd | dldPulseEnd | probeComplete
  | pageReadComplete | writePoll | pageWriteCommandEnd | morphStep | knobRoundStart | knobSampleEnd | matrixRowEnd =>
    simp only [exec, execSlotAgeThreshold, execDrdyReady, execWriteComplete, execHoldEnd, execDrdyTimeout, execBankChangeGapEnd,
      execDldPulseEnd, execProbeComplete, execPageReadComplete, execWritePoll, execPageWriteCommandEnd, execMorphStep,
      execKnobRoundStart, execKnobSampleEnd, execMatrixRowEnd]
    repeat' split
    all_goals simp [beginAcquire, portStep, readEnds, finishOperation, writeFails, beginRound]
  -- The one command left is RECALL, whose constructor's name is a keyword here
  | _ => exact endsNext_same (takeFrame_moment (recallEffect_moment _ _) s)

/-- Settles O2, by the meanings of the 59 commands. -/
theorem everyCommandCompletes : Obligations.EveryCommandCompletes := exec_endsNext

end Sys2Proof.Steps
end
